-- ==== Sys2Proof/Word.lean ====
section
/-! DEFINITION. The byte of a CAN data field and of a staged row, and the plainest arithmetic on it. -/

namespace Sys2Proof

/-- One data byte of a CAN frame, of the staging buffer or of a response (00_scope.md, Conventions). -/
abbrev Byte := BitVec 8

end Sys2Proof
end

