-- ==== Sys2Proof/Syntax.lean ====
section
/-! DEFINITION. The commands the HQ6 takes: one constructor of `Instr` for each row of
spec/opcode_table.json, with the names of ports, stations, contexts and slots and the CAN frame
that the operands are made of. The requests carry no operand: their arguments stand in the frame
that an ARRIVAL put into the request slot (R153, R155). -/

namespace Sys2Proof

/-- Bus ports 0, 1 and 2 (00_scope.md, Conventions). -/
abbrev Port := Fin 3

/-- Stations 0 to 47 (R56). -/
abbrev StationNo := Fin 48

/-- Dialogue contexts D0 to D3 (R76). -/
abbrev ContextNo := Fin 4

/-- Snapshot slots 0 to 23 (R144). -/
abbrev SlotNo := Fin 24

/-- Format descriptors 0 to 11 (R102). -/
abbrev DescriptorNo := Fin 12

/-- A CAN identifier with its format: 11-bit standard or 29-bit extended (00_scope.md, Table 0.4). -/
inductive CanId where
  | standard (value : BitVec 11)
  | extended (value : BitVec 29)
  deriving DecidableEq, Repr

/-- A classic CAN frame: identifier and format, data or remote kind, data length and data bytes
(00_scope.md, Table 0.4; R132). A remote frame holds no data bytes (R143). -/
structure Frame where
  id : CanId
  remote : Bool
  dlc : Nat
  data : List Byte
  deriving DecidableEq, Repr

/-- The commands of spec/opcode_table.json, in the table's order: events at the ports, timer
expiries, the part's own internal steps, power events, and the management requests. -/
inductive Instr where
  | powerOn
  | arrival (p : Port) (f : Frame)
  | receiveError (p : Port)
  | transmissionSent (p : Port)
  | transmissionFailed (p : Port)
  | lostArbitration (p : Port)
  | busIdle (p : Port)
  | recoveryEvent (p : Port)
  | transmitChoice (p : Port)
  | guardTimerExpiry (p : Port)
  | grant
  | waitTimerExpiry (c : ContextNo)
  | internalTick
  | holdTimerExpiry
  | keyLossTimerExpiry
  | roundTick
  | roundEnd
  | keyOffGraceExpiry
  | captureTrigger (sequence : Nat)
  | postWindowExpiry (slot : SlotNo)
  | queueHeldResponse
  | exportLook
  | snapshotLook
  | queueNotice
  | noticeIntervalExpiry
  | sleepDelayExpiry
  | saveComplete
  | wake (p : Port)
  | unknownRequest
  | status
  | portStatus
  | stationStatus
  | readRow
  | readEntry
  | stage
  | commit
  | softReset
  | surveyStart
  | surveyStop
  | readNow
  | setClock
  | recover
  | clear
  | clearAll
  | exportStart
  | exportStop
  | snapshot
  | release
  | notices
  deriving DecidableEq, Repr

end Sys2Proof
end

