-- ==== Sys2Proof/Decode.lean ====
section
/-! DEFINITION. What the opcode table's bits spell. No row of spec/opcode_table.json gives bits
(every row's "fields" is empty and none has "fixed"), so no word spells a command. The codes that a
MANAGE frame carries in byte 0 are not bits of the table: Machine/Requests.lean reads them (R177). -/

namespace Sys2Proof

/-- The command that the `nbits` low bits of `w` spell by spec/opcode_table.json. The table gives no
row any bits, so there is none. -/
def decodeTableWord (_nbits _w : Nat) : Option Instr := none

end Sys2Proof
end

