-- ==== Sys2Proof/Config.lean ====
section
/-! DEFINITION. The capacities the spec fixes, and the free values: choices and values the spec
leaves open, as constants without a body, so that nothing can be proved about what they are. -/

namespace Sys2Proof.Config

/-- Entries the history store holds at most (R1). -/
def storeCapacity : Nat := 512

/-- The value of next-sequence at which no further entry is created (R4). -/
def lastSequence : Nat := 4294967295

/-- Frames a forward queue holds at most (R132). -/
def forwardCapacity : Nat := 24

/-- Frames a management output queue holds at most (R136). -/
def managementCapacity : Nat := 8

/-- Frames a recent ring holds at most (R143). -/
def ringCapacity : Nat := 12

/-- FREE VALUE. Which of several internal steps that are due together is taken first: the spec says
'in either order' (R79, R136, R142, R155). The argument counts the choices made. -/
opaque dueChoice : Nat → Nat

/-- FREE VALUE. Whether a capture that an arrival has triggered is taken before the arrival's own
ring entry: R149 gives the outcome of both orders. The argument counts the choices made. -/
opaque captureBeforeRing : Nat → Bool

/-- FREE VALUE. The state byte PORT_STATUS would give for a DORMANT port: Table 13.5 states none,
since the part serves no request in SLEEP. -/
opaque dormantCode : Byte

end Sys2Proof.Config
end

