-- ==== Sys2Proof/Machine/State.lean ====
section
/-! DEFINITION. The state of the HQ6 as plain data, block by block as 00_scope.md Table 0.1 names
them; the defaults of the five tables; and the state right after the first power-on of a part whose
nonvolatile array is BLANK. A timer is the number of milliseconds it still has to run (R55), or
absent while it is stopped or elapsed. -/

namespace Sys2Proof.Machine

/-- Milliseconds left; absent while stopped or elapsed (R55). -/
abbrev Timer := Option Nat

/-- A set of ports, one mark for each (00_scope.md, Conventions). -/
abbrev PortSet := Vector Bool 3

/-! ### The history store (chapter 1) -/

/-- The four states of an entry (chapter 1.4, R7). -/
inductive EntryState where
  | active | pending | stored | gone
  deriving DecidableEq, Repr

/-- The states a report may carry (Table 2.1): never GONE. -/
inductive ReportedState where
  | active | pending | stored
  deriving DecidableEq, Repr

/-- Where a merge comes from (R23). -/
inductive MergeSource where
  | announce | readback
  deriving DecidableEq, Repr

/-- The sources of an entry, a subset of the two (Table 1.1). -/
structure Sources where
  announce : Bool
  readback : Bool
  deriving DecidableEq, Repr

/-- The last reported count L with its modulus M and wrap guard G (Table 1.1). -/
structure LastCount where
  l : Nat
  m : Nat
  g : Nat
  deriving DecidableEq, Repr

/-- A value of C with a value of K (Table 1.1, first and last active). -/
structure Stamp where
  c : Nat
  k : Nat
  deriving DecidableEq, Repr

/-- An entry of the history store: the fields of Table 1.1 (R2). -/
structure Entry where
  seq : Nat
  station : StationNo
  code : Nat
  state : EntryState
  peak : Nat
  total : Nat
  last : Option LastCount
  firstReport : Nat
  lastReport : Nat
  firstActive : Option Stamp
  lastActive : Option Stamp
  sources : Sources
  seen : Bool
  changed : Bool
  slot : Option SlotNo
  missed : Bool
  deriving DecidableEq, Repr

/-- The history store (R1, R4, R5). The entries stand by rising sequence number, so that equal
stores are equal data; the key map and the count of entries in use are read off the list. -/
structure Store where
  entries : List Entry
  nextSeq : Nat
  evictions : Nat
  refusals : Nat
  deriving DecidableEq, Repr

/-- The store of a power-on without a valid image (Table 1.2). -/
def Store.empty : Store := { entries := [], nextSeq := 1, evictions := 0, refusals := 0 }

/-! ### The five tables -/

/-- The class an identifier table row gives (Table 7.6). -/
inductive FrameClass where
  | pass | announce | reply | key | time | manage
  deriving DecidableEq, Repr

/-- Format, identifier value and mask of an identifier table row (Table 7.6). -/
inductive IdPattern where
  | standard (value mask : BitVec 11)
  | extended (value mask : BitVec 29)
  deriving DecidableEq, Repr

/-- An identifier table row (R127, Table 7.6). -/
structure IdentRow where
  enable : Bool
  snap : Bool
  ingress : PortSet
  cls : FrameClass
  route : PortSet
  station : StationNo
  descriptor : DescriptorNo
  pattern : IdPattern
  deriving DecidableEq, Repr

/-- Rows 1 to 95 after a power-on without a valid image (Table 7.7). -/
def IdentRow.default : IdentRow :=
  { enable := false, snap := false, ingress := #v[false, false, false], cls := .pass,
    route := #v[false, false, false], station := 0, descriptor := 0, pattern := .standard 0 0 }

/-- Row 0 after a power-on without a valid image: requests on 0x5C4 from the cab segment (Table 7.7). -/
def IdentRow.default0 : IdentRow :=
  { IdentRow.default with
    enable := true, ingress := #v[true, false, false], cls := .manage,
    pattern := .standard 0x5C4 0x7FF }

/-- A station row (R56, Table 4.1). Wait time and post window are in milliseconds. -/
structure StationRow where
  enable : Bool
  announceTriggers : Bool
  snapEnable : Bool
  homePort : Port
  queryId : CanId
  templateLength : Nat
  template : Vector Byte 8
  descriptor : DescriptorNo
  slotOffset : Nat
  window : Nat
  retryLimit : Nat
  waitTime : Nat
  defaultSeverity : Nat
  postCount : Nat
  postWindow : Nat
  deriving DecidableEq, Repr

/-- The defaults of Table 4.1. -/
def StationRow.default : StationRow :=
  { enable := false, announceTriggers := false, snapEnable := false, homePort := 0,
    queryId := .standard 0, templateLength := 8, template := Vector.replicate 8 0, descriptor := 0,
    slotOffset := 0, window := 1, retryLimit := 0, waitTime := 20, defaultSeverity := 0,
    postCount := 0, postWindow := 0 }

/-- The byte order of a descriptor (Table 6.1). -/
inductive ByteOrder where
  | mostSignificantFirst | leastSignificantFirst
  deriving DecidableEq, Repr

/-- A field of a frame's data: byte position and width in bytes (R102). A count field of width 0 is
no field (R178). -/
structure Field where
  pos : Nat
  width : Nat
  deriving DecidableEq, Repr

/-- A format descriptor (R102, Table 6.1). -/
structure Descriptor where
  kindPos : Option Nat
  headerKind : Byte
  recordKind : Byte
  nField : Field
  indexField : Field
  codeField : Field
  countField : Field
  guardG : Nat
  statusPos : Nat
  statusMask : Byte
  activeValue : Byte
  pendingValue : Byte
  storedValue : Byte
  severityPos : Option Nat
  byteOrder : ByteOrder
  queryStart : Field
  queryWindow : Nat
  valueField : Field
  divisor : Nat
  keyMask : BitVec 32
  keyOn : BitVec 32
  deriving DecidableEq, Repr

/-- The defaults of Table 6.1. -/
def Descriptor.default : Descriptor :=
  { kindPos := none, headerKind := 0x00, recordKind := 0x01, nField := ⟨0, 1⟩,
    indexField := ⟨1, 1⟩, codeField := ⟨2, 1⟩, countField := ⟨0, 0⟩, guardG := 128,
    statusPos := 3, statusMask := 0xFF, activeValue := 0x01, pendingValue := 0x02,
    storedValue := 0x03, severityPos := none, byteOrder := .mostSignificantFirst,
    queryStart := ⟨0, 1⟩, queryWindow := 1, valueField := ⟨0, 1⟩, divisor := 1,
    keyMask := 1, keyOn := 1 }

/-- The bit rates of a port (Table 7.1). -/
inductive BitRate where
  | kbit125 | kbit250 | kbit500
  deriving DecidableEq, Repr

/-- A port row (R116, Table 7.1). The guard interval is in milliseconds. -/
structure PortRow where
  enable : Bool
  listenOnly : Bool
  autoRecover : Bool
  managementEnable : Bool
  bitRate : BitRate
  defaultRoute : PortSet
  guardInterval : Nat
  almostFull : Nat
  deriving DecidableEq, Repr

/-- The defaults of ports 1 and 2 (Table 7.1). -/
def PortRow.default : PortRow :=
  { enable := false, listenOnly := false, autoRecover := true, managementEnable := false,
    bitRate := .kbit250, defaultRoute := #v[false, false, false], guardInterval := 50,
    almostFull := 16 }

/-- The defaults of port 0 (Table 7.1). -/
def PortRow.default0 : PortRow :=
  { PortRow.default with enable := true, managementEnable := true }

/-- Survey modes (Table 4.5). -/
inductive SurveyMode where
  | oncePerCycle | continuous
  deriving DecidableEq, Repr

/-- Clock sources (R44). -/
inductive ClockSource where
  | internal | vehicle
  deriving DecidableEq, Repr

/-- Key sources (R49): NONE, or KEY frames. -/
inductive KeySource where
  | noSource | keyFrames
  deriving DecidableEq, Repr

/-- The general row (Table 10.3). Round length in 100 ms units; grace, key-loss time and sleep
delay in seconds; notice interval in milliseconds. -/
structure GeneralRow where
  responseId : CanId
  surveyMode : SurveyMode
  roundLength : Nat
  backOff : Nat
  keyOffGrace : Nat
  minRun : Nat
  maxRun : Nat
  clockSource : ClockSource
  keySource : KeySource
  keyLossTime : Nat
  noticeEnable : Bool
  noticePort : Port
  noticeInterval : Nat
  sleepDelay : Nat
  deriving DecidableEq, Repr

/-- The defaults of Table 10.3 and Table 4.5. -/
def GeneralRow.default : GeneralRow :=
  { responseId := .standard 0x5C5, surveyMode := .oncePerCycle, roundLength := 300, backOff := 0,
    keyOffGrace := 10, minRun := 8, maxRun := 32, clockSource := .internal,
    keySource := .noSource, keyLossTime := 5, noticeEnable := false, noticePort := 0,
    noticeInterval := 1000, sleepDelay := 60 }

/-- The five tables the part loads (R158, R173). -/
structure Tables where
  ident : Vector IdentRow 96
  stations : Vector StationRow 48
  formats : Vector Descriptor 12
  ports : Vector PortRow 3
  general : GeneralRow
  deriving DecidableEq, Repr

/-- The tables of a power-on without a valid image (Tables 4.1, 6.1, 7.1, 7.7, 10.3). -/
def Tables.default : Tables :=
  { ident := (Vector.replicate 96 IdentRow.default).set 0 IdentRow.default0
    stations := Vector.replicate 48 StationRow.default
    formats := Vector.replicate 12 Descriptor.default
    ports := #v[PortRow.default0, PortRow.default, PortRow.default]
    general := GeneralRow.default }

/-! ### History clock (chapter 3) -/

/-- ON or OFF (R49). -/
inductive KeyState where
  | off | on
  deriving DecidableEq, Repr

/-- The history clock: C, the millisecond counter, the hold flag and its timer, K, the key state and
the key-loss timer (R43, R45, R48, R49, R50). -/
structure Clock where
  c : Nat
  ms : Nat
  hold : Bool
  holdTimer : Timer
  k : Nat
  key : KeyState
  keyLoss : Timer
  deriving DecidableEq, Repr

/-- The clock as a power-on starts it, before any key-on event (Table 3.2). -/
def Clock.start (c k : Nat) : Clock :=
  { c := c, ms := 0, hold := false, holdTimer := none, k := k, key := .off, keyLoss := none }

/-! ### Survey scheduler (chapter 4) -/

/-- A station's run-state (R58). -/
inductive RunState where
  | idle | due | engaged
  deriving DecidableEq, Repr

/-- The six outcomes of a dialogue (Table 5.3). -/
inductive Closing where
  | complete | short | abandoned | suspended | cut | portLost
  deriving DecidableEq, Repr

/-- The index of the next record to ask for, and the N against which it was taken (R58). -/
structure ResumePoint where
  next : Nat
  n : Nat
  deriving DecidableEq, Repr

/-- The state the survey scheduler keeps for a station (R58, Table 4.2). `lastOutcome` absent is
NONE. -/
structure StationState where
  run : RunState
  urgent : Bool
  resume : Option ResumePoint
  failures : Nat
  lastOutcome : Option Closing
  lapped : Bool
  lastComplete : Option Nat
  deriving DecidableEq, Repr

/-- A station after power-on (Table 4.2). -/
def StationState.start : StationState :=
  { run := .idle, urgent := false, resume := none, failures := 0, lastOutcome := none,
    lapped := false, lastComplete := none }

/-- The survey states (R62). -/
inductive SurveyState where
  | off | running | done | paused
  deriving DecidableEq, Repr

/-- A due queue: its urgent group and its normal group, each in the order of joining (R65). -/
structure DueQueue where
  urgent : List StationNo
  normal : List StationNo
  deriving DecidableEq, Repr

/-- An empty due queue. -/
def DueQueue.empty : DueQueue := { urgent := [], normal := [] }

/-- The survey scheduler (R62, R63, R65, R72). `tick` is the running 100 ms interval of the round;
`endDue` is the model's own mark that a tick has brought the round timer to the round length and the
ROUND_END that follows has not been taken yet. -/
structure Survey where
  state : SurveyState
  roundTimer : Nat
  roundNumber : Nat
  tick : Timer
  endDue : Bool
  grace : Timer
  due : Vector DueQueue 3
  stations : Vector StationState 48
  deriving DecidableEq, Repr

/-- The survey after a power-on of either kind (Table 4.6). -/
def Survey.start : Survey :=
  { state := .off, roundTimer := 0, roundNumber := 0, tick := none, endDue := false, grace := none,
    due := Vector.replicate 3 DueQueue.empty, stations := Vector.replicate 48 StationState.start }

/-! ### Dialogue engine and context arbiter (chapter 5) -/

/-- The states of a bound context (Table 5.1); FREE is the absence of a dialogue. -/
inductive Phase where
  | sending | awaitHeader | receiving
  deriving DecidableEq, Repr

/-- The pass origins (R78). -/
inductive Origin where
  | fromZero | resumed
  deriving DecidableEq, Repr

/-- What a bound context holds (R76, Table 5.2). `grantTag` is the model's name for 'the grant it
belongs to' (R81). -/
structure Dialogue where
  phase : Phase
  station : StationNo
  origin : Origin
  resumeN : Option Nat
  n : Option Nat
  expected : Nat
  windowEnd : Nat
  retries : Nat
  run : Nat
  waitTimer : Timer
  yieldPending : Bool
  urgentStart : Bool
  grantTag : Nat
  deriving DecidableEq, Repr

/-- The dialogue engine with the context arbiter (R76, R77): the four contexts, the last-granted
port, and the model's count of grants, from which each grant takes its tag. -/
structure Engine where
  contexts : Vector (Option Dialogue) 4
  lastGranted : Port
  grants : Nat
  deriving DecidableEq, Repr

/-- All contexts FREE, the last-granted port 2 (R76, R77). -/
def Engine.start : Engine := { contexts := Vector.replicate 4 none, lastGranted := 2, grants := 0 }

/-! ### Bus ports, forward queues and transmit arbiters (chapters 7 and 8) -/

/-- The seven port states (Table 7.2). -/
inductive PortState where
  | off | joining | active | passive | busOff | listen | dormant
  deriving DecidableEq, Repr

/-- A query frame, tagged with its context and its grant (R81, R135). -/
structure Query where
  frame : Frame
  context : ContextNo
  grantTag : Nat
  deriving DecidableEq, Repr

/-- The frame in a transmitter, with the source that supplied it (R121, R141). -/
inductive TxFrame where
  | forwarded (f : Frame)
  | query (q : Query)
  | management (f : Frame)
  deriving DecidableEq, Repr

/-- The three sources of a transmitter (Table 8.1). -/
inductive TxSource where
  | forward | harvest | management
  deriving DecidableEq, Repr

/-- What a port owns (R117, R120, R121, R126; `txErrors` is TEC, `rxErrors` is REC), with its three sources of frames (R132, R135, R136)
and its transmit arbiter (R137). `guardTimer` absent means elapsed. -/
structure PortUnit where
  state : PortState
  txErrors : Nat
  rxErrors : Nat
  drops : Nat
  strays : Nat
  malformed : Nat
  busOffs : Nat
  tx : Option TxFrame
  forward : List Frame
  harvest : List Query
  output : List Frame
  lastServed : TxSource
  guardTimer : Timer
  deriving DecidableEq, Repr

/-- A port after a power-on, in the given state (Table 7.5, R126, R137). -/
def PortUnit.start (st : PortState) : PortUnit :=
  { state := st, txErrors := 0, rxErrors := 0, drops := 0, strays := 0, malformed := 0, busOffs := 0,
    tx := none, forward := [], harvest := [], output := [], lastServed := .management,
    guardTimer := none }

/-! ### Snapshot unit (chapter 9) -/

/-- A ring frame: the arrival and its time tag (R143). -/
structure RingFrame where
  frame : Frame
  c : Nat
  ms : Nat
  deriving DecidableEq, Repr

/-- The states of a snapshot slot (Table 9.1). -/
inductive SlotState where
  | free | filling | complete
  deriving DecidableEq, Repr

/-- A snapshot slot (R144, Table 9.1). -/
structure Slot where
  state : SlotState
  owner : Option Nat
  port : Port
  pre : List RingFrame
  post : List RingFrame
  target : Nat
  timer : Timer
  read : Bool
  deriving DecidableEq, Repr

/-- A FREE slot (R144). -/
def Slot.freed : Slot :=
  { state := .free, owner := none, port := 0, pre := [], post := [], target := 0, timer := none,
    read := false }

/-- A capture trigger handed on by the store: the entry's sequence number and station (R13, R145). -/
structure Trigger where
  seq : Nat
  station : StationNo
  deriving DecidableEq, Repr

/-- The snapshot unit: the recent rings, the slots, and the triggers that the store has handed on
and that have not been taken yet, oldest first (R13, R143, R144, R149). -/
structure SnapshotUnit where
  rings : Vector (List RingFrame) 3
  slots : Vector Slot 24
  triggers : List Trigger
  deriving DecidableEq, Repr

/-- Rings empty, every slot FREE (Table 9.4). -/
def SnapshotUnit.start : SnapshotUnit :=
  { rings := Vector.replicate 3 [], slots := Vector.replicate 24 Slot.freed, triggers := [] }

/-! ### Management unit (chapters 10 and 11) -/

/-- The request slot (R155): a request being served stands with its port and its data bytes, a
waiting answer with its response port and the eight bytes of each frame not yet queued; a frame takes
its identifier when it is queued (R153). -/
inductive RequestSlot where
  | empty
  | serving (p : Port) (data : List Byte)
  | waitingOutput (p : Port) (held : List (List Byte))
  deriving DecidableEq, Repr

/-- A row that waits for a running dialogue (R159). Only STATION and FORMAT rows are ever held. -/
inductive PendingCommit where
  | station (n : StationNo) (row : StationRow)
  | format (n : DescriptorNo) (row : Descriptor)
  deriving DecidableEq, Repr

/-- The management unit (R155, R156, R157, R159). -/
structure Management where
  slot : RequestSlot
  staging : Vector Byte 32
  pendingCommit : Option PendingCommit
  overruns : Nat
  deriving DecidableEq, Repr

/-- The management unit after a power-on (R155, R156, R157, R159). -/
def Management.start : Management :=
  { slot := .empty, staging := Vector.replicate 32 0, pendingCommit := none, overruns := 0 }

/-- The states of the export streamer (R165). -/
inductive StreamState where
  | idle | streaming | paused
  deriving DecidableEq, Repr

/-- The kinds of stream (R165). -/
inductive StreamKind where
  | entries | snapshot
  deriving DecidableEq, Repr

/-- The export streamer (R165, R169). `filter` absent is ALL. Of a SNAPSHOT stream, `owner` is the
sequence number its end frame carries and `slotLost` says that the slot has been freed since. -/
structure Streamer where
  state : StreamState
  kind : StreamKind
  port : Port
  cursor : Nat
  filter : Option StationNo
  changedOnly : Bool
  sent : Nat
  slot : SlotNo
  total : Nat
  owner : Nat
  slotLost : Bool
  deriving DecidableEq, Repr

/-- The IDLE streamer (R165). -/
def Streamer.start : Streamer :=
  { state := .idle, kind := .entries, port := 0, cursor := 1, filter := none, changedOnly := false,
    sent := 0, slot := 0, total := 0, owner := 0, slotLost := false }

/-- The notice unit (R170): pending count, latest sequence number, interval timer (absent means
elapsed). -/
structure NoticeUnit where
  count : Nat
  latest : Option Nat
  timer : Timer
  deriving DecidableEq, Repr

/-- The notice unit after a power-on (R170). -/
def NoticeUnit.start : NoticeUnit := { count := 0, latest := none, timer := none }

/-! ### Retention unit (chapter 12) -/

/-- The power states (R172). -/
inductive PowerState where
  | run | saving | sleep
  deriving DecidableEq, Repr

/-- The image-valid mark (R176). -/
inductive ImageMark where
  | blank | invalid | valid
  deriving DecidableEq, Repr

/-- The sleep-delay timer: stopped, running, or expired with no arrival since (R172). -/
inductive SleepTimer where
  | stopped
  | running (left : Nat)
  | expired
  deriving DecidableEq, Repr

/-- The contents of the nonvolatile array (R173): tables, entries without slot and seen mark,
next-sequence, the two counts, C and K. -/
structure Image where
  tables : Tables
  store : Store
  c : Nat
  k : Nat
  deriving DecidableEq, Repr

/-- The retention unit (R172, R173, R176). -/
structure Retention where
  power : PowerState
  sleepTimer : SleepTimer
  mark : ImageMark
  image : Image
  imageLost : Bool
  deriving DecidableEq, Repr

/-! ### The machine -/

/-- The state of the HQ6. `pending` is the queue of commands that wait, first in, first out, and
`choices` the model's count of free choices made (`Config.dueChoice`, `Config.captureBeforeRing`);
the other fields are the blocks of Table 0.1. -/
structure State where
  pending : List Instr
  tables : Tables
  store : Store
  clock : Clock
  survey : Survey
  engine : Engine
  ports : Vector PortUnit 3
  snapshots : SnapshotUnit
  management : Management
  streamer : Streamer
  notice : NoticeUnit
  retention : Retention
  choices : Nat
  deriving DecidableEq, Repr

/-- Why a step may fault. The spec gives the HQ6 no condition that stops it, so there is no
constructor and no step faults. -/
inductive Fault where
  deriving DecidableEq, Repr

/-- Why a step may be refused. -/
inductive Refusal where
  /-- Raised by an arm of `exec` for a command that has no meaning yet. Safe: the model stops. -/
  | notModelled (mnemonic : String)
  /-- Raised by ARRIVAL when its operand is no classic CAN frame (`Frame.wf`): no such frame can be
  received (Table 0.3, Arrival). Safe: the model stops. -/
  | notACanFrame
  deriving DecidableEq, Repr

/-- The state after reset: the first power-on of a part whose array is BLANK (R176). The tables take
their defaults, port 0 enters JOINING and ports 1 and 2 are OFF (Table 7.5). The key source is NONE,
so the key-on event of R51 has followed at once: the key state is ON, K is 1 and the sleep-delay
timer is stopped. -/
def State.reset : State :=
  { pending := []
    tables := Tables.default
    store := Store.empty
    clock := { Clock.start 0 1 with key := .on }
    survey := Survey.start
    engine := Engine.start
    ports := #v[PortUnit.start .joining, PortUnit.start .off, PortUnit.start .off]
    snapshots := SnapshotUnit.start
    management := Management.start
    streamer := Streamer.start
    notice := NoticeUnit.start
    retention :=
      { power := .run, sleepTimer := .stopped, mark := .blank,
        image := { tables := Tables.default, store := Store.empty, c := 0, k := 0 },
        imageLost := false }
    choices := 0 }

end Sys2Proof.Machine
end

