-- ==== Sys2Proof/Machine/Ops.lean ====
section
/-! DEFINITION. The operations every block shares: reading and changing one element of a fixed
table, saturating counts, numbers as most-significant-first bytes, and the one way each component
of the state is changed. -/

namespace Sys2Proof.Machine

/-! ### Fixed tables -/

/-- The element at `i` replaced by its image under `f`. -/
def modifyAt {α : Type} {n : Nat} (v : Vector α n) (i : Fin n) (f : α → α) : Vector α n :=
  v.set i.val (f (v.get i)) i.isLt

/-- Every element replaced by its image under `f`. -/
def mapAll {α β : Type} {n : Nat} (f : α → β) (v : Vector α n) : Vector β n :=
  ⟨⟨v.toList.map f⟩, by simp⟩

/-- The ports in ascending order. -/
def allPorts : List Port := List.finRange 3

/-- The contexts in ascending order. -/
def allContexts : List ContextNo := List.finRange 4

/-- The slots in ascending order. -/
def allSlots : List SlotNo := List.finRange 24

/-- The stations in ascending order (R64). -/
def allStations : List StationNo := List.finRange 48

/-- The number `x` as one of the first `n`, if it is. -/
def finOf (n x : Nat) : Option (Fin n) :=
  if h : x < n then some ⟨x, h⟩ else none

/-! ### Numbers -/

/-- A saturating count: it stops at its maximum (00_scope.md, Conventions). -/
def satAdd (max a b : Nat) : Nat := min max (a + b)

/-- The saturating 16-bit count, 0 to 65,535, that most counts of the spec are. -/
def sat16 (a b : Nat) : Nat := satAdd 65535 a b

/-- The `w` low bytes of `v`, most-significant-first (R177, R178). -/
def bigEndian : Nat → Nat → List Byte
  | 0, _ => []
  | w + 1, v => BitVec.ofNat 8 (v / 256 ^ w) :: bigEndian w v

/-- The number that bytes spell most-significant-first (R105, R177). -/
def ofBigEndian (bs : List Byte) : Nat :=
  bs.foldl (fun acc b => acc * 256 + b.toNat) 0

/-- A byte from a small number. -/
def byte (v : Nat) : Byte := BitVec.ofNat 8 v

/-- A bit of weight `w` for a flag: the value a set flag adds to its byte. -/
def flagBit (w : Nat) (b : Bool) : Nat := if b then w else 0

/-- The weights 1, 2 and 4 of a port set's bits (Table 13.7, bits 2 to 0). -/
def portBits (ps : PortSet) : Nat :=
  flagBit 1 (ps.get 0) + flagBit 2 (ps.get 1) + flagBit 4 (ps.get 2)

/-- The port set that three bits name, bit i for port i (Table 13.7). -/
def portSetOf (v : Nat) : PortSet := #v[v.testBit 0, v.testBit 1, v.testBit 2]

/-- Milliseconds of a time given in seconds (R55). -/
def seconds (n : Nat) : Nat := 1000 * n

/-- A timer started at `n` ms; an interval of 0 ms starts no wait (R140). -/
def startTimer (n : Nat) : Timer := if n = 0 then none else some n

/-! ### Reading the state -/

/-- The station row of a station. -/
def State.stationRow (s : State) (st : StationNo) : StationRow := s.tables.stations.get st

/-- The port row of a port. -/
def State.portRow (s : State) (p : Port) : PortRow := s.tables.ports.get p

/-- The format descriptor of a number. -/
def State.format (s : State) (d : DescriptorNo) : Descriptor := s.tables.formats.get d

/-- The general row. -/
def State.general (s : State) : GeneralRow := s.tables.general

/-- The port with its counts, queues and arbiter. -/
def State.port (s : State) (p : Port) : PortUnit := s.ports.get p

/-- The scheduler's state of a station. -/
def State.station (s : State) (st : StationNo) : StationState := s.survey.stations.get st

/-- The due queue of a port. -/
def State.due (s : State) (p : Port) : DueQueue := s.survey.due.get p

/-- The dialogue a context holds; none while it is FREE (R76). -/
def State.context (s : State) (c : ContextNo) : Option Dialogue := s.engine.contexts.get c

/-- A snapshot slot. -/
def State.slot (s : State) (i : SlotNo) : Slot := s.snapshots.slots.get i

/-- The recent ring of a port. -/
def State.ring (s : State) (p : Port) : List RingFrame := s.snapshots.rings.get p

/-! ### Changing one component -/

/-- Change a port. -/
def State.modPort (s : State) (p : Port) (f : PortUnit → PortUnit) : State :=
  { s with ports := modifyAt s.ports p f }

/-- Change the scheduler's state of a station. -/
def State.modStation (s : State) (st : StationNo) (f : StationState → StationState) : State :=
  { s with survey := { s.survey with stations := modifyAt s.survey.stations st f } }

/-- Change the due queue of a port. -/
def State.modDue (s : State) (p : Port) (f : DueQueue → DueQueue) : State :=
  { s with survey := { s.survey with due := modifyAt s.survey.due p f } }

/-- Change the survey scheduler's own fields. -/
def State.modSurvey (s : State) (f : Survey → Survey) : State := { s with survey := f s.survey }

/-- Set what a context holds. -/
def State.setContext (s : State) (c : ContextNo) (d : Option Dialogue) : State :=
  { s with engine := { s.engine with contexts := modifyAt s.engine.contexts c (fun _ => d) } }

/-- Change the dialogue a context holds; a FREE context stays FREE. -/
def State.modDialogue (s : State) (c : ContextNo) (f : Dialogue → Dialogue) : State :=
  s.setContext c ((s.context c).map f)

/-- Change the history store. -/
def State.modStore (s : State) (f : Store → Store) : State := { s with store := f s.store }

/-- Change every entry of the store for which `q` holds. -/
def State.modEntries (s : State) (q : Entry → Bool) (f : Entry → Entry) : State :=
  s.modStore fun st => { st with entries := st.entries.map fun e => if q e then f e else e }

/-- Change the clock. -/
def State.modClock (s : State) (f : Clock → Clock) : State := { s with clock := f s.clock }

/-- Change the tables. -/
def State.modTables (s : State) (f : Tables → Tables) : State := { s with tables := f s.tables }

/-- Change a snapshot slot. -/
def State.modSlot (s : State) (i : SlotNo) (f : Slot → Slot) : State :=
  { s with snapshots := { s.snapshots with slots := modifyAt s.snapshots.slots i f } }

/-- Change the snapshot unit. -/
def State.modSnapshots (s : State) (f : SnapshotUnit → SnapshotUnit) : State :=
  { s with snapshots := f s.snapshots }

/-- Change the management unit. -/
def State.modManagement (s : State) (f : Management → Management) : State :=
  { s with management := f s.management }

/-- Change the export streamer. -/
def State.modStreamer (s : State) (f : Streamer → Streamer) : State :=
  { s with streamer := f s.streamer }

/-- Change the notice unit. -/
def State.modNotice (s : State) (f : NoticeUnit → NoticeUnit) : State :=
  { s with notice := f s.notice }

/-- Change the retention unit. -/
def State.modRetention (s : State) (f : Retention → Retention) : State :=
  { s with retention := f s.retention }

/-- The next free choice has been made. -/
def State.choose (s : State) : State := { s with choices := s.choices + 1 }

/-! ### Frames -/

/-- A data frame of the part: its length is the number of its bytes. -/
def dataFrame (id : CanId) (bytes : List Byte) : Frame :=
  { id := id, remote := false, dlc := bytes.length, data := bytes }

/-- Eight bytes: the given ones, then 0x00 in the unused places (R153, R177). -/
def pad8 (bs : List Byte) : List Byte := (bs ++ List.replicate 8 0).take 8

/-- A frame of the management unit: eight bytes on the response identifier in force (R153). -/
def State.managementFrame (s : State) (bs : List Byte) : Frame :=
  dataFrame s.general.responseId (pad8 bs)

end Sys2Proof.Machine
end

