-- ==== Sys2Proof/Machine/Snapshots.lean ====
section
/-! DEFINITION. The snapshot unit (chapter 9): freeing a slot, taking a capture trigger, and the
entry of a SNAP-flagged arrival into its port's recent ring and the FILLING slots of that port. -/

namespace Sys2Proof.Machine

/-! ### Freeing -/

/-- A stream of the slot is told that the slot has been freed (R169). -/
def Streamer.loseSlot (x : Streamer) (i : SlotNo) : Streamer :=
  if x.state ≠ .idle ∧ x.kind = .snapshot ∧ x.slot = i then { x with slotLost := true } else x

/-- A bound slot is freed: it becomes FREE with its fields as R144 gives, and its owner's snapshot
slot field becomes absent; the snapshot-missed flag is not changed (R150). -/
def freeSlot (s : State) (i : SlotNo) : State :=
  ((s.modSlot i fun _ => Slot.freed).modEntries (fun e => e.slot = some i) fun e =>
    { e with slot := none }).modStreamer fun x => x.loseSlot i

/-- The slot of an entry, if it has one, is freed. -/
def freeSlotOf (s : State) (e : Entry) : State :=
  match e.slot with
  | some i => freeSlot s i
  | none => s

/-- The entries for which `q` holds leave the store and the key map, and their slots are freed
(R11, R19, R20). -/
def removeEntries (s : State) (q : Entry → Bool) : State :=
  ((s.store.entries.filter q).foldl freeSlotOf s).modStore fun st =>
    { st with entries := st.entries.filter fun e => !q e }

/-! ### Captures -/

/-- The entry of a sequence number. -/
def State.entry (s : State) (seq : Nat) : Option Entry :=
  s.store.entries.find? fun e => e.seq = seq

/-- The lowest-numbered FREE slot (R146). -/
def State.freeSlotNo (s : State) : Option SlotNo :=
  allSlots.find? fun i => (s.slot i).state = .free

/-- What steps 1 to 6 of R146 make of a slot. A post window of 0 ms with a non-zero target expires
at once. -/
def captured (owner : Nat) (row : StationRow) (ring : List RingFrame) : Slot :=
  let fills := row.postCount ≠ 0 ∧ row.postWindow ≠ 0
  { state := if fills then .filling else .complete
    owner := some owner
    port := row.homePort
    pre := ring
    post := []
    target := row.postCount
    timer := if fills then some row.postWindow else none
    read := false }

/-- A capture into the slot, or a recapture in place: the slot holds the capture port's ring, the
entry holds the slot's number and its snapshot-missed flag is clear (R146, R148). -/
def captureInto (s : State) (seq : Nat) (row : StationRow) (i : SlotNo) : State :=
  (s.modSlot i fun _ => captured seq row (s.ring row.homePort)).modEntries (fun e => e.seq = seq)
    fun e => { e with slot := some i, missed := false }

/-- A capture trigger that was not captured: the entry's snapshot-missed flag is set (R146, R148). -/
def missCapture (s : State) (seq : Nat) : State :=
  s.modEntries (fun e => e.seq = seq) fun e => { e with missed := true }

/-- A capture trigger is taken (R145, Table 9.3). -/
def takeTrigger (s : State) (t : Trigger) : State :=
  let row := s.stationRow t.station
  if row.snapEnable then
    match s.entry t.seq with
    | none => s
    | some e =>
      match e.slot with
      | some i => if (s.slot i).read then captureInto s t.seq row i else missCapture s t.seq
      | none =>
        match s.freeSlotNo with
        | some i => captureInto s t.seq row i
        | none => missCapture s t.seq
  else s

/-! ### Recent rings -/

/-- A ring with a new newest frame; a ring of 12 loses its oldest first (R143). -/
def pushRing (ring : List RingFrame) (x : RingFrame) : List RingFrame :=
  if Config.ringCapacity ≤ ring.length then ring.tail ++ [x] else ring ++ [x]

/-- A FILLING slot takes an arrival on its capture port as a post frame and becomes COMPLETE when the
post frames number the post target (R147). Any other slot is left as it is. -/
def Slot.offer (sl : Slot) (p : Port) (x : RingFrame) : Slot :=
  if sl.state = .filling ∧ sl.port = p then
    if sl.target ≤ sl.post.length + 1 then
      { sl with post := sl.post ++ [x], state := .complete, timer := none }
    else { sl with post := sl.post ++ [x] }
  else sl

/-- A SNAP-flagged arrival enters its port's recent ring and is offered to the FILLING slots of the
port (R131, R143, R147). -/
def enterRing (s : State) (p : Port) (x : RingFrame) : State :=
  s.modSnapshots fun u =>
    { u with
      rings := modifyAt u.rings p fun r => pushRing r x
      slots := mapAll (fun sl => sl.offer p x) u.slots }

/-- A FILLING slot becomes COMPLETE with the post frames it holds and its timer stopped (R147). -/
def Slot.finish (sl : Slot) : Slot :=
  if sl.state = .filling then { sl with state := .complete, timer := none } else sl

/-- Every FILLING slot becomes COMPLETE (R144, R164, R173). -/
def finishSlots (s : State) : State :=
  s.modSnapshots fun u => { u with slots := mapAll Slot.finish u.slots }

/-- Every recent ring is emptied (R143). -/
def emptyRings (s : State) : State :=
  s.modSnapshots fun u => { u with rings := Vector.replicate 3 [] }

end Sys2Proof.Machine
end

