-- ==== Sys2Proof/Machine/Arbiter.lean ====
section
/-! DEFINITION. The context arbiter (chapter 5.2 and 5.8): which port and station the next grant
goes to, the max run check, and the preemption check. -/

namespace Sys2Proof.Machine

/-- A port in ACTIVE or PASSIVE: it transmits, and its stations may be granted contexts (R77). -/
def PortState.serves : PortState → Bool
  | .active | .passive => true
  | .off | .joining | .busOff | .listen | .dormant => false

/-- The port a dialogue counts against: its station's home port (R76). -/
def State.dialoguePort (s : State) (d : Dialogue) : Port := (s.stationRow d.station).homePort

/-- Whether a context is bound to a station of the port. -/
def State.boundTo (s : State) (p : Port) (c : ContextNo) : Bool :=
  match s.context c with
  | some d => decide (s.dialoguePort d = p)
  | none => false

/-- The contexts bound to stations of the port, in ascending order. -/
def State.contextsOf (s : State) (p : Port) : List ContextNo := allContexts.filter (s.boundTo p)

/-- The context bound to a station, if there is one. -/
def State.contextOf (s : State) (st : StationNo) : Option ContextNo :=
  allContexts.find? fun c =>
    match s.context c with
    | some d => decide (d.station = st)
    | none => false

/-- The lowest-numbered FREE context (R77). -/
def State.freeContext (s : State) : Option ContextNo :=
  allContexts.find? fun c => (s.context c).isNone

/-- Whether all four contexts are FREE (R172). -/
def State.allFree (s : State) : Bool := allContexts.all fun c => (s.context c).isNone

/-- A port is eligible when it is ACTIVE or PASSIVE and fewer than two contexts are bound to its
stations (R77). -/
def State.eligible (s : State) (p : Port) : Bool :=
  (s.port p).state.serves && decide ((s.contextsOf p).length < 2)

/-- The ports from the one after the last-granted port, wrapping from 2 to 0 (R77). -/
def State.scanOrder (s : State) : List Port :=
  [s.engine.lastGranted + 1, s.engine.lastGranted + 2, s.engine.lastGranted]

/-- The head of a due queue and whether it is urgent (R65). -/
def DueQueue.head (q : DueQueue) : Option (StationNo × Bool) :=
  match q.urgent with
  | st :: _ => some (st, true)
  | [] =>
    match q.normal with
    | st :: _ => some (st, false)
    | [] => none

/-- A due queue without its head. -/
def DueQueue.removeHead (q : DueQueue) : DueQueue :=
  match q.urgent with
  | _ :: rest => { q with urgent := rest }
  | [] => { q with normal := q.normal.tail }

/-- Whether a due queue is empty. -/
def DueQueue.isEmpty (q : DueQueue) : Bool := q.urgent.isEmpty && q.normal.isEmpty

/-- A due queue without a station (R57, R66). -/
def DueQueue.remove (q : DueQueue) (st : StationNo) : DueQueue :=
  { urgent := q.urgent.filter (fun x => x ≠ st), normal := q.normal.filter (fun x => x ≠ st) }

/-- The port the two scans of R77 find: the urgent scan, and then the any scan. -/
def State.grantPort (s : State) : Option Port :=
  match s.scanOrder.find? fun p => s.eligible p && !(s.due p).urgent.isEmpty with
  | some p => some p
  | none => s.scanOrder.find? fun p => s.eligible p && !(s.due p).isEmpty

/-- A grant the arbiter would make now. -/
structure Grant where
  context : ContextNo
  port : Port
  station : StationNo
  urgent : Bool
  deriving DecidableEq, Repr

/-- The grant of R77 in this state, if a context is FREE and a scan finds a port. -/
def State.nextGrant (s : State) : Option Grant :=
  match s.freeContext, s.grantPort with
  | some c, some p =>
    match (s.due p).head with
    | some (st, urgent) => some { context := c, port := p, station := st, urgent := urgent }
    | none => none
  | _, _ => none

/-! ### Yielding -/

/-- Set a context's yield-pending flag. -/
def State.askToYield (s : State) (c : ContextNo) : State :=
  s.modDialogue c fun d => { d with yieldPending := true }

/-- The condition of the max run check for a dialogue (R94). -/
def State.mustYield (s : State) (d : Dialogue) : Bool :=
  decide (s.general.maxRun ≠ 0) && decide (s.general.minRun + s.general.maxRun ≤ d.run) &&
    !(s.due (s.dialoguePort d)).isEmpty

/-- The max run check of one context (R94). -/
def maxRunCheck (s : State) (c : ContextNo) : State :=
  match s.context c with
  | some d => if s.mustYield d then s.askToYield c else s
  | none => s

/-- The max run checks that a station joining the due queue of `p` brings: one for each context
bound to a station of the port (R94). -/
def maxRunChecks (s : State) (p : Port) : State := (s.contextsOf p).foldl maxRunCheck s

/-- An urgent station at the head of the port's urgent group cannot be served: the port is ACTIVE or
PASSIVE, and no context is FREE or the port already holds two (R95). -/
def State.starved (s : State) (p : Port) : Bool :=
  (s.port p).state.serves && !(s.due p).urgent.isEmpty &&
    (s.freeContext.isNone || decide (2 ≤ (s.contextsOf p).length))

/-- The candidates of R95: the two contexts of the port when it holds two, else all four. -/
def State.candidates (s : State) (p : Port) : List ContextNo :=
  if 2 ≤ (s.contextsOf p).length then s.contextsOf p else allContexts

/-- The run of a context that R95 finds eligible as a victim. -/
def State.victimRun (s : State) (c : ContextNo) : Option Nat :=
  match s.context c with
  | some d =>
    if s.general.minRun ≤ d.run ∧ d.urgentStart = false ∧ d.yieldPending = false then some d.run
    else none
  | none => none

/-- The eligible candidate with the largest run, the lower number between equals (R95). -/
def State.largestRun (s : State) (cs : List ContextNo) : Option ContextNo :=
  (cs.foldl (fun best c =>
    match s.victimRun c, best with
    | none, _ => best
    | some r, none => some (c, r)
    | some r, some (_, rb) => if rb < r then some (c, r) else best) none).map Prod.fst

/-- Whether some context has yield-pending set. -/
def State.someYield (s : State) : Bool :=
  allContexts.any fun c =>
    match s.context c with
    | some d => d.yieldPending
    | none => false

/-- The victim of the preemption check, if it chooses one (R95). -/
def State.preemptionVictim (s : State) : Option ContextNo :=
  if s.someYield then none
  else
    match s.scanOrder.find? s.starved with
    | some p => s.largestRun (s.candidates p)
    | none => none

/-- The preemption check (R95). -/
def preemptionCheck (s : State) : State :=
  match s.preemptionVictim with
  | some c => s.askToYield c
  | none => s

/-- The preemption check that follows a look for a grant (R77, R95). While a grant can still be made
the look is not over: the GRANT that follows makes the check. -/
def lookCheck (s : State) : State :=
  if s.nextGrant.isSome then s else preemptionCheck s

/-- The end of a look whose grant an event has taken away: a grant was possible before the event and none is
after it, so the preemption check that the look still owes is made now (R79, R95). -/
def settleLook (s before : State) : State :=
  if before.nextGrant.isSome && s.nextGrant.isNone then preemptionCheck s else s

end Sys2Proof.Machine
end

