-- ==== Sys2Proof/Machine/Survey.lean ====
section
/-! DEFINITION. The survey scheduler (chapter 4): joining and leaving due queues, urgency, slot
events and rounds. -/

namespace Sys2Proof.Machine

/-! ### Due queues -/

/-- The station joins the tail of the normal group of its home port's due queue and becomes DUE with
its urgent flag clear (R64, R60); the max run checks of R94 follow. -/
def joinNormal (s : State) (st : StationNo) : State :=
  let p := (s.stationRow st).homePort
  maxRunChecks
    ((s.modStation st fun x => { x with run := .due, urgent := false }).modDue p fun q =>
      { q with normal := q.normal ++ [st] }) p

/-- The station joins the tail of the urgent group of its home port's due queue and becomes DUE with
its urgent flag set (R67, R68); the max run checks of R94 follow. -/
def joinUrgent (s : State) (st : StationNo) : State :=
  let p := (s.stationRow st).homePort
  maxRunChecks
    ((s.modStation st fun x => { x with run := .due, urgent := true }).modDue p fun q =>
      { q with urgent := q.urgent ++ [st] }) p

/-- A DUE station of the normal group moves to the tail of the urgent group (R66, R67). -/
def moveUrgent (s : State) (st : StationNo) : State :=
  (s.modStation st fun x => { x with urgent := true }).modDue (s.stationRow st).homePort fun q =>
    { urgent := q.urgent ++ [st], normal := q.normal.filter (fun x => x ≠ st) }

/-- A station is made urgent-due by its run-state (R67, R68): IDLE joins, normal DUE moves, urgent
DUE and ENGAGED stay. The arbiter's check follows a join or a move (R77, R95). -/
def makeUrgent (s : State) (st : StationNo) : State :=
  match (s.station st).run with
  | .idle => lookCheck (joinUrgent s st)
  | .due => if (s.station st).urgent then s else lookCheck (moveUrgent s st)
  | .engaged => s

/-- An urgency request from an announcement, acted on when the row's enable and
announce-triggers-readback flag are set and the key state is ON (R67). -/
def urgencyRequest (s : State) (st : StationNo) : State :=
  if (s.stationRow st).enable ∧ (s.stationRow st).announceTriggers ∧ s.clock.key = .on then
    makeUrgent s st
  else s

/-- All three due queues are emptied and their stations become IDLE with the urgent flag clear
(R66). -/
def flushDue (s : State) : State :=
  s.modSurvey fun v =>
    { v with
      due := Vector.replicate 3 DueQueue.empty
      stations := mapAll (fun x =>
        if x.run = .due then { x with run := .idle, urgent := false } else x) v.stations }

/-! ### Rounds and slot events -/

/-- Whether the present value of the round timer is a moment of slot events for the station: its row
and its home port's row are enabled and its slot offset is that value, below the round length
(R64). -/
def State.slotDue (s : State) (st : StationNo) : Bool :=
  (s.stationRow st).enable && (s.portRow (s.stationRow st).homePort).enable &&
    decide ((s.stationRow st).slotOffset = s.survey.roundTimer) &&
    decide (s.survey.roundTimer < s.general.roundLength)

/-- Whether back-off skips the station's slot event in this round (R64). -/
def State.backedOff (s : State) (st : StationNo) : Bool :=
  decide (s.general.backOff ≠ 0) && decide (s.general.backOff ≤ (s.station st).failures) &&
    decide (s.survey.roundNumber % 4 ≠ 0)

/-- The slot event of one station: skipped, lapped or due, in this order (R64); the arbiter's check follows a
join (R77, R95). -/
def slotEvent (s : State) (st : StationNo) : State :=
  if s.backedOff st then s
  else
    match (s.station st).run with
    | .idle => lookCheck (joinNormal s st)
    | .due | .engaged => s.modStation st fun x => { x with lapped := true }

/-- The slot events at the present value of the round timer, in ascending station number (R64). DESIGN CHOICE
(notes/assumptions/5.md): the events of one value are one step, and the grants that their joins allow follow
as commands of their own, so no grant comes between two of them. -/
def slotEvents (s : State) : State :=
  allStations.foldl (fun t st => if s.slotDue st then slotEvent t st else t) s

/-- The 100 ms interval of the round timer (R63). -/
def tickInterval : Nat := 100

/-- A round starts: the timer is 0, a new 100 ms interval begins, and the slot events of offset 0
follow at once (R63, R64). -/
def startRound (s : State) : State :=
  slotEvents (s.modSurvey fun v =>
    { v with state := .running, roundTimer := 0, tick := some tickInterval, endDue := false })

/-- The round timer stops and holds its value, with the survey in the given state (R63). -/
def stopRound (s : State) (st : SurveyState) : State :=
  s.modSurvey fun v => { v with state := st, tick := none, endDue := false }

/-- A key-on event at the survey, in the order of R70. -/
def surveyKeyOn (s : State) : State :=
  let s := s.modSurvey fun v => { v with grace := none, roundNumber := 0, roundTimer := 0 }
  match s.survey.state with
  | .paused | .done => startRound s
  | .off | .running => s

/-- The end of a round (R63): a CONTINUOUS survey starts the next round, its number wrapping from
65,535 to 0; a ONCE_PER_CYCLE survey becomes DONE. -/
def endRound (s : State) : State :=
  match s.general.surveyMode with
  | .continuous =>
    startRound (s.modSurvey fun v => { v with roundNumber := (v.roundNumber + 1) % 65536 })
  | .oncePerCycle => stopRound s .done

/-- A 100 ms tick of a RUNNING survey: the timer rises by one; below the round length its value is a
moment of slot events, at or above it the round is to end (R63, R64). -/
def raiseRound (s : State) : State :=
  let s := s.modSurvey fun v =>
    { v with roundTimer := v.roundTimer + 1, tick := some tickInterval }
  if s.survey.roundTimer < s.general.roundLength then slotEvents s
  else s.modSurvey fun v => { v with endDue := true }

end Sys2Proof.Machine
end

