-- ==== Sys2Proof/Machine/Store.lean ====
section
/-! DEFINITION. The history store (chapters 1 and 2): the arithmetic of a merge, rank and eviction
order, creation, admission and refusal, the hand-offs to the neighbours, seen marks, GONE marking
and CLEAR. -/

namespace Sys2Proof.Machine

/-! ### Merge inputs -/

/-- A count r with the modulus M and the wrap guard G of its descriptor (Table 2.1). -/
structure ReportedCount where
  r : Nat
  m : Nat
  g : Nat
  deriving DecidableEq, Repr

/-- The inputs of a merge but for C and K, which the store reads as it takes the merge (R23). -/
structure Merge where
  station : StationNo
  code : Nat
  state : ReportedState
  severity : Nat
  count : Option ReportedCount
  source : MergeSource
  deriving DecidableEq, Repr

/-- The entry state of a reported state (R7). -/
def ReportedState.toEntry : ReportedState → EntryState
  | .active => .active
  | .pending => .pending
  | .stored => .stored

/-! ### The occurrence total (chapter 2.2) -/

/-- The held L under the merge's modulus: reduced to the remainder when M has changed and L is not
below the new M (R28). -/
def carriedCount (held : LastCount) (rep : ReportedCount) : Nat :=
  if held.m ≠ rep.m ∧ rep.m ≤ held.l then held.l % rep.m else held.l

/-- The difference d of a reported and a held count under the modulus (R29). -/
def countDifference (r l m : Nat) : Nat := if l ≤ r then r - l else r + m - l

/-- T after a count reaches an entry that holds L (R28, R29). -/
def reconciledTotal (t : Nat) (held : LastCount) (rep : ReportedCount) : Nat :=
  let d := countDifference rep.r (carriedCount held rep) rep.m
  if d = 0 then t else if d ≤ rep.g then sat16 t d else sat16 t rep.r

/-- The merge brings the entry into ACTIVE from PENDING, STORED or GONE (R31, R13). -/
def broughtActive (before : EntryState) (rep : ReportedState) : Bool :=
  decide (rep = .active) && decide (before ≠ .active)

/-- T after a merge into an existing entry (Table 2.2, R28 to R31). -/
def mergedTotal (e : Entry) (m : Merge) : Nat :=
  match m.count, e.last with
  | some rep, some held => reconciledTotal e.total held rep
  | some rep, none => max e.total rep.r
  | none, none => if broughtActive e.state m.state then sat16 e.total 1 else e.total
  | none, some _ => e.total

/-- T of a new entry (R27, R31). -/
def newTotal (m : Merge) : Nat :=
  match m.count with
  | some rep => if rep.r = 0 then 1 else rep.r
  | none => 1

/-- L, M and G as a merge that carries a count leaves them (R27 to R30). -/
def ReportedCount.toLast (rep : ReportedCount) : LastCount := { l := rep.r, m := rep.m, g := rep.g }

/-! ### State, severity, times and sources (chapter 2.4) -/

/-- The sources with the merge's source added (R36). -/
def Sources.add (x : Sources) : MergeSource → Sources
  | .announce => { x with announce := true }
  | .readback => { x with readback := true }

/-- An existing entry after a merge, in the stages of R25, with its seen mark set (R8, R14). -/
def mergedEntry (e : Entry) (m : Merge) (c k : Nat) : Entry :=
  let total := mergedTotal e m
  let state := m.state.toEntry
  { e with
    total := total
    last := match m.count with
      | some rep => some rep.toLast
      | none => e.last
    state := state
    lastReport := c
    firstActive :=
      if m.state = .active ∧ e.firstActive = none then some { c := c, k := k } else e.firstActive
    lastActive := if m.state = .active then some { c := c, k := k } else e.lastActive
    peak := max e.peak m.severity
    sources := e.sources.add m.source
    changed := e.changed || decide (total ≠ e.total) || decide (state ≠ e.state)
    seen := true }

/-- The entry a merge creates (R9). -/
def newEntry (seq : Nat) (m : Merge) (c k : Nat) : Entry :=
  let stamp := if m.state = .active then some { c := c, k := k : Stamp } else none
  { seq := seq
    station := m.station
    code := m.code
    state := m.state.toEntry
    peak := m.severity
    total := newTotal m
    last := m.count.map ReportedCount.toLast
    firstReport := c
    lastReport := c
    firstActive := stamp
    lastActive := stamp
    sources := Sources.add { announce := false, readback := false } m.source
    seen := true
    changed := true
    slot := none
    missed := false }

/-! ### Rank and eviction order (chapter 2.5) -/

/-- The tier of a state (R38). -/
def EntryState.tier : EntryState → Nat
  | .active => 3
  | .pending => 2
  | .stored => 1
  | .gone => 0

/-- The rank of a state with a severity (R38, R40). -/
def rankOf (st : EntryState) (severity : Nat) : Nat := 8 * st.tier + severity

/-- The rank of an entry (R38). -/
def Entry.rank (e : Entry) : Nat := rankOf e.state e.peak

/-- The rank a merge's candidate is scored with (R40). -/
def Merge.rank (m : Merge) : Nat := rankOf m.state.toEntry m.severity

/-- Whether `a` stands before `b` in eviction order: lower rank, then older last report time, then
lower sequence number (R39). -/
def Entry.evictedBefore (a b : Entry) : Bool :=
  if a.rank ≠ b.rank then decide (a.rank < b.rank)
  else if a.lastReport ≠ b.lastReport then decide (a.lastReport < b.lastReport)
  else decide (a.seq < b.seq)

/-- The first entry in eviction order (R10, R39). -/
def victimOf : List Entry → Option Entry
  | [] => none
  | e :: es =>
    match victimOf es with
    | none => some e
    | some v => if e.evictedBefore v then some e else some v

/-! ### The merge at the store (chapter 1.5) -/

/-- The entry of a key (R3). -/
def State.entryOfKey (s : State) (st : StationNo) (code : Nat) : Option Entry :=
  s.store.entries.find? fun e => decide (e.station = st) && decide (e.code = code)

/-- The capture trigger for the snapshot unit and, for an announcement, the urgency request for the
survey scheduler (R13). -/
def handOff (s : State) (seq : Nat) (m : Merge) : State :=
  let s := s.modSnapshots fun u => { u with triggers := u.triggers ++ [{ seq := seq, station := m.station }] }
  match m.source with
  | .announce => urgencyRequest s m.station
  | .readback => s

/-- The notice unit's part of a creation: the pending count rises, saturating at 255, and the new
sequence number is the latest (R170). -/
def noticeCreation (s : State) (seq : Nat) : State :=
  s.modNotice fun n => { n with count := satAdd 255 n.count 1, latest := some seq }

/-- An entry is created and handed on (R4, R9, R13). -/
def createEntry (s : State) (m : Merge) : State :=
  let seq := s.store.nextSeq
  let s := s.modStore fun st =>
    { st with
      entries := st.entries ++ [newEntry seq m s.clock.c s.clock.k]
      nextSeq := st.nextSeq + 1 }
  handOff (noticeCreation s seq) seq m

/-- The victim leaves the store, its slot is freed and the eviction count rises (R11). -/
def evict (s : State) (v : Entry) : State :=
  (removeEntries s fun e => e.seq = v.seq).modStore fun st =>
    { st with evictions := sat16 st.evictions 1 }

/-- A refusal raises the refusal count and changes nothing else (R12). -/
def refuseMerge (s : State) : State :=
  s.modStore fun st => { st with refusals := sat16 st.refusals 1 }

/-- A new-key merge: refused at the last sequence number, created into room, or put to the admission
test (R4, R9, R10). -/
def newKeyMerge (s : State) (m : Merge) : State :=
  if Config.lastSequence ≤ s.store.nextSeq then refuseMerge s
  else if s.store.entries.length < Config.storeCapacity then createEntry s m
  else
    match victimOf s.store.entries with
    | none => createEntry s m
    | some v => if v.rank ≤ m.rank then createEntry (evict s v) m else refuseMerge s

/-- A merge is taken at the store whole (R8). -/
def takeMerge (s : State) (m : Merge) : State :=
  match s.entryOfKey m.station m.code with
  | none => newKeyMerge s m
  | some e =>
    let t := s.modEntries (fun x => x.seq = e.seq) fun x => mergedEntry x m s.clock.c s.clock.k
    if broughtActive e.state m.state then handOff t e.seq m else t

/-! ### Passes and CLEAR (chapters 1.7 and 1.11) -/

/-- The seen marks of a station's entries are cleared (R14). -/
def clearSeen (s : State) (st : StationNo) : State :=
  s.modEntries (fun e => e.station = st) fun e => { e with seen := false }

/-- GONE marking of a station (R15). -/
def markGone (s : State) (st : StationNo) : State :=
  s.modEntries (fun e => decide (e.station = st) && decide (e.state ≠ .gone) && !e.seen) fun e =>
    { e with state := .gone, changed := true }

/-- A CLEAR of one station: its entries are removed and its resume point is cleared (R19). -/
def clearStation (s : State) (st : StationNo) : State :=
  (removeEntries s fun e => e.station = st).modStation st fun x => { x with resume := none }

/-- A CLEAR of all stations (R20). -/
def clearStore (s : State) : State :=
  (removeEntries s fun _ => true).modSurvey fun v =>
    { v with stations := mapAll (fun x => { x with resume := none }) v.stations }

/-- The entries in use that belong to a station (R19). -/
def State.entriesOf (s : State) (st : StationNo) : Nat :=
  (s.store.entries.filter fun e => e.station = st).length

end Sys2Proof.Machine
end

