-- ==== Sys2Proof/Machine/Dialogues.lean ====
section
/-! DEFINITION. The dialogue engine (chapter 5): grants, queries, headers and records, retry points,
and closing a dialogue with all that a close brings: GONE marking, the station's outcome and the
pending commit. -/

namespace Sys2Proof.Machine

/-! ### Station rows and the pending commit -/

/-- A station's state after a row is applied: resume point, F and lapped flag go; a DUE station whose
new row is disabled or names another home port becomes IDLE (R57). -/
def StationState.afterRow (x : StationState) (keeps : Bool) : StationState :=
  let y := { x with resume := none, failures := 0, lapped := false }
  if x.run = .due ∧ !keeps then { y with run := .idle, urgent := false } else y

/-- A station row is applied (R57). A DUE station that it takes out of its queue may have been the grant a
look was waiting for (R95). -/
def applyStationRow (s : State) (st : StationNo) (row : StationRow) : State :=
  let old := s.stationRow st
  let keeps := row.enable && decide (row.homePort = old.homePort)
  let t := (s.modTables fun t => { t with stations := modifyAt t.stations st fun _ => row }).modStation
    st fun x => x.afterRow keeps
  if keeps then t else settleLook (t.modDue old.homePort fun q => q.remove st) s

/-- A format descriptor is replaced (R104). -/
def applyFormat (s : State) (n : DescriptorNo) (row : Descriptor) : State :=
  s.modTables fun t => { t with formats := modifyAt t.formats n fun _ => row }

/-- Whether an ENGAGED station names the descriptor as its reply format descriptor (R104). -/
def State.formatInUse (s : State) (n : DescriptorNo) : Bool :=
  allStations.any fun st =>
    decide ((s.station st).run = .engaged) && decide ((s.stationRow st).descriptor = n)

/-- Whether the row that is pending still waits (R159). -/
def State.commitWaits (s : State) : PendingCommit → Bool
  | .station n _ => decide ((s.station n).run = .engaged)
  | .format n _ => s.formatInUse n

/-- A pending row is applied as an immediate commit would be (R159). -/
def applyPending (s : State) : PendingCommit → State
  | .station n row => applyStationRow s n row
  | .format n row => applyFormat s n row

/-- At a close, the pending commit is applied if its row no longer waits, and is then absent
(R97, R159). -/
def releasePending (s : State) : State :=
  match s.management.pendingCommit with
  | none => s
  | some pc =>
    if s.commitWaits pc then s
    else applyPending (s.modManagement fun m => { m with pendingCommit := none }) pc

/-! ### Queries -/

/-- The bytes with `bs` written from position `pos` on; bytes beyond the end are dropped. -/
def overlay (bytes : List Byte) (pos : Nat) : List Byte → List Byte
  | [] => bytes
  | b :: bs => overlay (bytes.set pos b) (pos + 1) bs

/-- The bytes of a field value in a byte order (R105). -/
def fieldBytes (order : ByteOrder) (width v : Nat) : List Byte :=
  match order with
  | .mostSignificantFirst => bigEndian width v
  | .leastSignificantFirst => (bigEndian width v).reverse

/-- A query frame: the template's bytes with the start index and then the window count written over
them, cut at the template's data length (R80). -/
def buildQuery (row : StationRow) (fmt : Descriptor) (start : Nat) : Frame :=
  let indexed := overlay row.template.toList fmt.queryStart.pos
    (fieldBytes fmt.byteOrder fmt.queryStart.width start)
  dataFrame row.queryId ((indexed.set fmt.queryWindow (byte row.window)).take row.templateLength)

/-- The query of a dialogue, which asks from its expected index (R80). -/
def State.queryOf (s : State) (c : ContextNo) (d : Dialogue) : Query :=
  let row := s.stationRow d.station
  { frame := buildQuery row (s.format row.descriptor) d.expected, context := c, grantTag := d.grantTag }

/-- The dialogue enters SENDING: its query is built and placed in the harvest output of its home
port, and its wait timer stops (R80, R81, R90). -/
def sendQuery (s : State) (c : ContextNo) : State :=
  match s.context c with
  | none => s
  | some d =>
    (s.setContext c (some { d with phase := .sending, waitTimer := none })).modPort (s.dialoguePort d)
      fun u => { u with harvest := u.harvest ++ [s.queryOf c d] }

/-! ### Closing (R97) -/

/-- The query of the context still in the harvest output is withdrawn (R81, R97). -/
def withdrawQuery (s : State) (c : ContextNo) (d : Dialogue) : State :=
  s.modPort (s.dialoguePort d) fun u =>
    { u with harvest := u.harvest.filter fun q => !(decide (q.context = c) && decide (q.grantTag = d.grantTag)) }

/-- The resume point of a dialogue, if its N is known (Table 4.4). -/
def Dialogue.resumePoint (d : Dialogue) : Option ResumePoint :=
  d.n.map fun n => { next := d.expected, n := n }

/-- The outcome of a dialogue is recorded for its station (R60, Table 4.4). -/
def recordOutcome (s : State) (d : Dialogue) (o : Closing) : State :=
  match o with
  | .complete =>
    s.modStation d.station fun x =>
      { x with lastOutcome := some .complete, run := .idle, urgent := false, resume := none,
               failures := 0, lastComplete := some s.clock.c }
  | .short =>
    s.modStation d.station fun x =>
      { x with lastOutcome := some .short, run := .idle, urgent := false, resume := none,
               failures := 0 }
  | .abandoned =>
    s.modStation d.station fun x =>
      { x with lastOutcome := some .abandoned, run := .idle, urgent := false, resume := none,
               failures := satAdd 15 x.failures 1 }
  | .suspended =>
    let t := s.modStation d.station fun x =>
      { x with lastOutcome := some .suspended, run := .idle, urgent := false,
               resume := d.resumePoint.or x.resume }
    match s.clock.key with
    | .on => joinNormal t d.station
    | .off => t
  | .cut =>
    s.modStation d.station fun x =>
      { x with lastOutcome := some .cut, run := .idle, urgent := false,
               resume := d.resumePoint.or x.resume }
  | .portLost =>
    s.modStation d.station fun x =>
      { x with lastOutcome := some .portLost, run := .idle, urgent := false,
               resume := d.resumePoint.or x.resume }

/-- The close of a context's dialogue with an outcome, in the order of R97: query withdrawn, GONE
marking on COMPLETE, outcome recorded, context FREE, pending commit released, arbiter's check. A FREE
context is left as it is (R100). -/
def closeDialogue (s : State) (c : ContextNo) (o : Closing) : State :=
  match s.context c with
  | none => s
  | some d =>
    let s := withdrawQuery s c d
    let s := if o = .complete then markGone s d.station else s
    let s := recordOutcome s d o
    let s := s.setContext c none
    lookCheck (releasePending s)

/-- Every bound dialogue is ended CUT, in ascending context number (R98). -/
def cutAll (s : State) : State := allContexts.foldl (fun t c => closeDialogue t c .cut) s

/-- Every dialogue of the port's stations is ended PORT_LOST, in ascending context number (R99). -/
def losePort (s : State) (p : Port) : State :=
  allContexts.foldl (fun t c => if t.boundTo p c then closeDialogue t c .portLost else t) s

/-! ### Grants -/

/-- A grant binds the context to the station and builds its first query (R78). -/
def bindContext (s : State) (g : Grant) : State :=
  let x := s.station g.station
  let d : Dialogue :=
    { phase := .sending
      station := g.station
      origin := if x.resume.isSome then .resumed else .fromZero
      resumeN := x.resume.map (·.n)
      n := none
      expected := (x.resume.map (·.next)).getD 0
      windowEnd := 0
      retries := (s.stationRow g.station).retryLimit
      run := 0
      waitTimer := none
      yieldPending := false
      urgentStart := g.urgent
      grantTag := s.engine.grants }
  let s := (s.modDue g.port DueQueue.removeHead).modStation g.station fun x =>
    { x with run := .engaged, urgent := false }
  let s := { s with engine := { s.engine with lastGranted := g.port, grants := s.engine.grants + 1 } }
  sendQuery (s.setContext g.context (some d)) g.context

/-! ### Headers, records and retry points -/

/-- A retry point, in the order of R91. -/
def retryPoint (s : State) (c : ContextNo) : State :=
  match s.context c with
  | none => s
  | some d =>
    if d.retries = 0 then closeDialogue s c .abandoned
    else if d.yieldPending then closeDialogue s c .suspended
    else sendQuery (s.setContext c (some { d with retries := d.retries - 1 })) c

/-- A header is accepted: N becomes the reported N and the wait timer restarts; with N not above the
expected index the dialogue closes COMPLETE, otherwise the context enters RECEIVING with its window
end (R84, R85, R86). -/
def acceptHeader (s : State) (c : ContextNo) (d : Dialogue) (n : Nat) : State :=
  let row := s.stationRow d.station
  let d := { d with n := some n, resumeN := none, waitTimer := some row.waitTime }
  if n ≤ d.expected then closeDialogue (s.setContext c (some d)) c .complete
  else
    s.setContext c (some { d with phase := .receiving, windowEnd := min (d.expected + row.window) n })

/-- A RESUMED pass restarts from index 0, since the header's N differs from the resume N (R85). -/
def restartPass (s : State) (c : ContextNo) (d : Dialogue) (n : Nat) : State :=
  sendQuery ((clearSeen s d.station).setContext c
    (some { d with n := some n, expected := 0, origin := .fromZero, resumeN := none })) c

/-- A header taken in AWAIT_HEADER (R84, R85, R86). -/
def takeHeader (s : State) (c : ContextNo) (d : Dialogue) (n : Nat) : State :=
  match d.n with
  | some _ =>
    if n < d.expected then closeDialogue s c .short else acceptHeader s c d n
  | none =>
    match d.origin with
    | .fromZero => acceptHeader (clearSeen s d.station) c d n
    | .resumed => if d.resumeN = some n then acceptHeader s c d n else restartPass s c d n

/-- What the decoder reads from a record or an announcement (R111, R112). -/
structure FaultReport where
  code : Nat
  state : ReportedState
  severity : Nat
  count : Option ReportedCount
  deriving DecidableEq, Repr

/-- The merge a fault report gives (R87, R112). -/
def FaultReport.merge (r : FaultReport) (st : StationNo) (source : MergeSource) : Merge :=
  { station := st, code := r.code, state := r.state, severity := r.severity, count := r.count,
    source := source }

/-- A window boundary: retries are restored, and the dialogue closes SUSPENDED or sends a continue
query (R89). -/
def windowBoundary (s : State) (c : ContextNo) (d : Dialogue) : State :=
  let s := s.setContext c (some { d with retries := (s.stationRow d.station).retryLimit })
  if d.yieldPending then closeDialogue s c .suspended else sendQuery s c

/-- What follows the advance of a dialogue: the end of the list, the end of the window, or neither
(R87, steps 3 to 5). -/
def afterAdvance (s : State) (c : ContextNo) : State :=
  match s.context c with
  | none => s
  | some d =>
    if d.n = some d.expected then closeDialogue s c .complete
    else if d.expected = d.windowEnd then windowBoundary s c d
    else s

/-- A record at the expected index is accepted: merge, advance with the checks that a rise of run
brings, and what follows (R87, R94, R95). -/
def acceptRecord (s : State) (c : ContextNo) (d : Dialogue) (r : FaultReport) : State :=
  let s := takeMerge s (r.merge d.station .readback)
  let s := s.modDialogue c fun x =>
    { x with expected := x.expected + 1, run := sat16 x.run 1,
             waitTimer := some (s.stationRow d.station).waitTime }
  afterAdvance (preemptionCheck (maxRunCheck s c)) c

/-- A record taken in RECEIVING: accepted at the expected index, ignored below it, a gap above it
(R87, R88). DEDUCED (notes/assumptions/22.md): R88 also holds for a one-byte index that an N above 255 has
left behind, though R80 calls such records gaps. -/
def takeRecord (s : State) (c : ContextNo) (d : Dialogue) (index : Nat) (r : FaultReport) : State :=
  if index < d.expected then s
  else if index = d.expected then acceptRecord s c d r
  else retryPoint s c

end Sys2Proof.Machine
end

