-- ==== Sys2Proof/Machine/Decoder.lean ====
section
/-! DEFINITION. The record decoder (chapter 6): reading fields through a format descriptor, sorting
replies by kind, and the length, status and severity rules. A frame that cannot be read gives
nothing: it is malformed (R114). -/

namespace Sys2Proof.Machine

/-- The bytes a field occupies, most significant first (R102, R105). -/
def fieldIn (order : ByteOrder) (f : Field) (data : List Byte) : List Byte :=
  let bs := (data.drop f.pos).take f.width
  match order with
  | .mostSignificantFirst => bs
  | .leastSignificantFirst => bs.reverse

/-- A field's value: an unsigned whole number (R24, R105). -/
def readField (d : Descriptor) (f : Field) (data : List Byte) : Nat :=
  ofBigEndian (fieldIn d.byteOrder f data)

/-- The data reach every byte of the field (R108). -/
def Field.within (f : Field) (data : List Byte) : Bool := decide (f.pos + f.width ≤ data.length)

/-- The single byte at a position (R102). -/
def byteAt (data : List Byte) (pos : Nat) : Byte := data.getD pos 0

/-- A frame kind of R107. -/
inductive ReplyKind where
  | header | record
  deriving DecidableEq, Repr

/-- The kind of a REPLY frame by its kind byte; without a kind position every frame is a record
(R107). -/
def replyKind (d : Descriptor) (data : List Byte) : Option ReplyKind :=
  match d.kindPos with
  | none => some .record
  | some k =>
    if data.length ≤ k then none
    else if byteAt data k = d.headerKind then some .header
    else if byteAt data k = d.recordKind then some .record
    else none

/-- The kind check of an announcement (R112). -/
def announceKindOk (d : Descriptor) (data : List Byte) : Bool :=
  match d.kindPos with
  | none => true
  | some k => decide (k < data.length) && decide (byteAt data k = d.recordKind)

/-- The bytes a record and an announcement both need, apart from the kind byte (Table 6.3). -/
def reportWithin (d : Descriptor) (data : List Byte) : Bool :=
  d.codeField.within data && decide (d.statusPos < data.length) &&
    (decide (d.countField.width = 0) || d.countField.within data) &&
    (match d.severityPos with
     | none => true
     | some p => decide (p < data.length))

/-- The reported state of a status byte (R109). -/
def statusOf (d : Descriptor) (b : Byte) : Option ReportedState :=
  let v := b &&& d.statusMask
  if v = d.activeValue then some .active
  else if v = d.pendingValue then some .pending
  else if v = d.storedValue then some .stored
  else none

/-- The severity of a record or an announcement (R110). -/
def severityOf (d : Descriptor) (default : Nat) (data : List Byte) : Nat :=
  match d.severityPos with
  | none => default
  | some p => min 7 (byteAt data p).toNat

/-- The modulus of a descriptor's count: 256 for one byte, 65,536 for two (R24, R102). -/
def Descriptor.modulus (d : Descriptor) : Nat := 256 ^ d.countField.width

/-- The count a frame carries, when the descriptor has a count field (R23). -/
def countOf (d : Descriptor) (data : List Byte) : Option ReportedCount :=
  if d.countField.width = 0 then none
  else some { r := readField d d.countField data, m := d.modulus, g := d.guardG }

/-- The fault report of a record or an announcement: length, then status, then severity (R108, R109,
R110, R115). `default` is the station's default severity. -/
def readReport (d : Descriptor) (default : Nat) (data : List Byte) : Option FaultReport :=
  if reportWithin d data then
    (statusOf d (byteAt data d.statusPos)).map fun st =>
      { code := readField d d.codeField data, state := st,
        severity := severityOf d default data, count := countOf d data }
  else none

/-- What a well-formed REPLY frame carries (R111). -/
inductive Reply where
  | header (n : Nat)
  | record (index : Nat) (report : FaultReport)
  deriving DecidableEq, Repr

/-- A REPLY frame decoded, or nothing when it is malformed (R107 to R111, R115). -/
def readReply (d : Descriptor) (default : Nat) (data : List Byte) : Option Reply :=
  match replyKind d data with
  | none => none
  | some .header => if d.nField.within data then some (.header (readField d d.nField data)) else none
  | some .record =>
    if d.indexField.within data then
      (readReport d default data).map (.record (readField d d.indexField data))
    else none

/-- An ANNOUNCE frame decoded, or nothing when it is malformed (R112). -/
def readAnnouncement (d : Descriptor) (default : Nat) (data : List Byte) : Option FaultReport :=
  if announceKindOk d data then readReport d default data else none

/-- The raw value of a KEY or TIME frame, or nothing when it is too short (R113). -/
def readValue (d : Descriptor) (data : List Byte) : Option Nat :=
  if d.valueField.within data then some (readField d d.valueField data) else none

/-- The vehicle time of a raw value: divided by the time divisor, the remainder discarded (R41). -/
def vehicleSeconds (d : Descriptor) (raw : Nat) : Nat := raw / d.divisor

end Sys2Proof.Machine
end

