-- ==== Sys2Proof/Machine/Retention.lean ====
section
/-! DEFINITION. The retention unit (chapter 12): the sleep-delay timer, the conditions of sleep entry,
and entering and abandoning a save. -/

namespace Sys2Proof.Machine

/-- The sleep-delay timer starts anew at the sleep delay of the general row (R172). -/
def restartSleep (s : State) : State :=
  s.modRetention fun r => { r with sleepTimer := .running (seconds s.general.sleepDelay) }

/-- The sleep-delay timer stops (R172). -/
def stopSleep (s : State) : State := s.modRetention fun r => { r with sleepTimer := .stopped }

/-- An entry as the image holds it: without its snapshot slot and its seen mark (R173, R6). -/
def Entry.saved (e : Entry) : Entry := { e with slot := none, seen := false }

/-- What a save writes, from the tables and the store as they stand (R173). -/
def State.imageNow (s : State) : Image :=
  { tables := s.tables
    store := { s.store with entries := s.store.entries.map Entry.saved }
    c := s.clock.c
    k := s.clock.k }

/-- The part enters SAVING: the mark becomes INVALID, and the tables and the store are written as
they stand (R173). -/
def enterSaving (s : State) : State :=
  s.modRetention fun r => { r with power := .saving, mark := .invalid, image := s.imageNow }

/-- Whether the request slot holds a request that has arrived and has not been served yet. -/
def State.serving (s : State) : Bool :=
  match s.management.slot with
  | .serving _ _ => true
  | .empty => false
  | .waitingOutput _ _ => false

/-- The conditions of sleep entry (R172). A request in the slot is still part of the arrival that
brought it (R155): the part does not start a save before it has been served. -/
def State.readyToSleep (s : State) : Bool :=
  decide (s.retention.power = .run) && decide (s.clock.key = .off) &&
    decide (s.retention.sleepTimer = .expired) && s.allFree &&
    decide (s.streamer.state = .idle) && s.management.pendingCommit.isNone && !s.serving

/-- The retention unit's check: the part goes from RUN to SAVING when all conditions hold (R172). DESIGN CHOICE
(notes/assumptions/23.md): a grant that could be made does not hold it back, so after closes that leave all
four contexts FREE the check comes before the grant, which then abandons the save (R97, R174). -/
def checkSleep (s : State) : State := if s.readyToSleep then enterSaving s else s

/-- An arrival or a grant during SAVING returns the part to RUN with the mark left INVALID, and the
sleep-delay timer restarts (R174). -/
def abandonSave (s : State) : State :=
  if s.retention.power = .saving then
    restartSleep (s.modRetention fun r => { r with power := .run })
  else s

/-- What an arrival does to the retention unit: it abandons a save, and it restarts the sleep-delay
timer while the key state is OFF (R172, R174). -/
def arrivalSeen (s : State) : State :=
  let s := abandonSave s
  if s.clock.key = .off then restartSleep s else s

end Sys2Proof.Machine
end

