-- ==== Sys2Proof/Machine/Clock.lean ====
section
/-! DEFINITION. The history clock (chapter 3): internal ticks, vehicle time and the hold, key readings,
and the key-on and key-off events with their two receivers. -/

namespace Sys2Proof.Machine

/-! ### C, the millisecond counter and the hold -/

/-- The highest value of C (R43). -/
def lastSecond : Nat := 4294967295

/-- An internal tick: the millisecond counter returns to 0, and C rises by one while the hold flag is
clear and C is below its maximum (R43). -/
def Clock.tick (k : Clock) : Clock :=
  { k with ms := 0, c := if k.hold = false ∧ k.c < lastSecond then k.c + 1 else k.c }

/-- The hold flag is cleared and its timer stopped (R45, R46). -/
def Clock.release (k : Clock) : Clock := { k with hold := false, holdTimer := none }

/-- C is set, the millisecond counter is 0, and the hold is cleared (R45, R47). -/
def Clock.setTo (k : Clock) (v : Nat) : Clock := { k.release with c := v, ms := 0 }

/-- The hold timer's length (R45, R55). -/
def holdTime : Nat := seconds 60

/-- The hold flag is set and its timer starts, unless it is set already (R45). -/
def Clock.holdBack (k : Clock) : Clock :=
  if k.hold then k else { k with hold := true, holdTimer := some holdTime }

/-- A vehicle time under the clock source VEHICLE (R45). -/
def Clock.follow (k : Clock) (v : Nat) : Clock :=
  if k.c < v then k.setTo v else if v = k.c then k.release else k.holdBack

/-- A decoded TIME value reaches the clock (R44, R45). -/
def vehicleTime (s : State) (v : Nat) : State :=
  match s.general.clockSource with
  | .internal => s
  | .vehicle => s.modClock fun k => k.follow v

/-! ### Key events -/

/-- The key-off grace timer starts; a grace of 0 s expires at once and cuts the engaged dialogues
(R71, R72). -/
def startGrace (s : State) : State :=
  if s.general.keyOffGrace = 0 then cutAll (s.modSurvey fun v => { v with grace := none })
  else s.modSurvey fun v => { v with grace := some (seconds s.general.keyOffGrace) }

/-- A key-off event at the survey, in the order of R71. -/
def surveyKeyOff (s : State) : State :=
  let s := match s.survey.state with
    | .running | .done => stopRound s .paused
    | .off | .paused => s
  startGrace (flushDue s)

/-- A key-on event: the key state becomes ON, K rises, and the survey scheduler and the retention unit
are told (R48, R52). -/
def keyOnEvent (s : State) : State :=
  stopSleep (surveyKeyOn (s.modClock fun k => { k with key := .on, k := sat16 k.k 1 }))

/-- A key-off event: the key state becomes OFF, and the survey scheduler and the retention unit are
told (R53, R172). -/
def keyOffEvent (s : State) : State :=
  restartSleep (surveyKeyOff (s.modClock fun k => { k with key := .off }))

/-- The key-loss timer starts at its full length (R50). -/
def restartKeyLoss (s : State) : State :=
  s.modClock fun k => { k with keyLoss := some (seconds s.general.keyLossTime) }

/-- The reading of a KEY value: ON when the bits kept by the mask equal the on-value (R49). -/
def keyReading (raw : Nat) (mask on : BitVec 32) : KeyState :=
  if BitVec.ofNat 32 raw &&& mask = on then .on else .off

/-- The event a key reading brings (R49). -/
def applyReading (s : State) (reading : KeyState) : State :=
  match s.clock.key, reading with
  | .off, .on => keyOnEvent s
  | .on, .off => keyOffEvent s
  | .off, .off => s
  | .on, .on => s

/-- A decoded KEY value reaches the clock (R49, R50); under the key source NONE it is ignored. -/
def keyValue (s : State) (raw : Nat) (mask on : BitVec 32) : State :=
  match s.general.keySource with
  | .noSource => s
  | .keyFrames => restartKeyLoss (applyReading s (keyReading raw mask on))

end Sys2Proof.Machine
end

