-- ==== Sys2Proof/Machine/Ports.lean ====
section
/-! DEFINITION. The bus ports (chapter 7) with their forward queues and management output queues
(chapter 8): fault confinement, offers to a queue, bus-off, and taking a port off the bus. -/

namespace Sys2Proof.Machine

/-! ### What a port state permits -/

/-- Whether a port in this state accepts arrivals (Table 7.2). -/
def PortState.accepts : PortState → Bool
  | .active | .passive | .listen => true
  | .off | .joining | .busOff | .dormant => false

/-- The states that an event taking every enabled port off the bus finds a port in (Table 7.3). -/
def PortState.onBus : PortState → Bool
  | .active | .passive | .listen | .busOff | .joining => true
  | .off | .dormant => false

/-! ### Fault confinement -/

/-- The port state that TEC and REC call for in ACTIVE and PASSIVE (R120). -/
def PortUnit.confined (u : PortUnit) : PortState :=
  match u.state with
  | .active => if 128 ≤ u.txErrors ∨ 128 ≤ u.rxErrors then .passive else .active
  | .passive => if u.txErrors < 128 ∧ u.rxErrors < 128 then .active else .passive
  | .off => .off
  | .joining => .joining
  | .busOff => .busOff
  | .listen => .listen
  | .dormant => .dormant

/-- TEC and REC change and are compared with the thresholds (R120). A move between ACTIVE and PASSIVE
is one at which the context arbiter looks for a grant (R77, R117). -/
def changeErrors (s : State) (p : Port) (f : PortUnit → PortUnit) : State :=
  let t := s.modPort p fun u => let v := f u; { v with state := v.confined }
  if (t.port p).state = (s.port p).state then t else lookCheck t

/-! ### Offers to queues -/

/-- A frame offered to an egress port's forward queue (R133). -/
def PortUnit.offerForward (u : PortUnit) (f : Frame) : PortUnit :=
  if u.state.serves then
    if u.forward.length < Config.forwardCapacity then { u with forward := u.forward ++ [f] }
    else { u with drops := sat16 u.drops 1 }
  else u

/-- The free places of a management output queue: none in BUS_OFF (R136), nor in DORMANT. -/
def PortUnit.freePlaces (u : PortUnit) : Nat :=
  match u.state with
  | .busOff | .dormant => 0
  | .off | .joining | .active | .passive | .listen => Config.managementCapacity - u.output.length

/-- The free places of a port's management output queue. -/
def State.freePlaces (s : State) (p : Port) : Nat := (s.port p).freePlaces

/-- Frames join the tail of a port's management output queue (R136). -/
def queueOutput (s : State) (p : Port) (fs : List Frame) : State :=
  s.modPort p fun u => { u with output := u.output ++ fs }

/-! ### Leaving the bus -/

/-- A port with its transmitter, forward queue, harvest output and management output queue emptied,
nothing counted (R125, R134, R135, R136). -/
def PortUnit.flushed (u : PortUnit) : PortUnit :=
  { u with tx := none, forward := [], harvest := [], output := [] }

/-- The transmit arbiter as R137 resets it. -/
def PortUnit.arbiterReset (u : PortUnit) : PortUnit :=
  { u with lastServed := .management, guardTimer := none }

/-- A STREAMING stream to the port becomes PAUSED (R168). -/
def pauseStream (s : State) (p : Port) : State :=
  s.modStreamer fun x => if x.state = .streaming ∧ x.port = p then { x with state := .paused } else x

/-- A PAUSED stream to the port becomes STREAMING (R168). -/
def resumeStream (s : State) (p : Port) : State :=
  s.modStreamer fun x => if x.state = .paused ∧ x.port = p then { x with state := .streaming } else x

/-- A request slot that waits to queue response frames for the port becomes EMPTY (R122, R155). -/
def dropWaiting (s : State) (p : Port) : State :=
  match s.management.slot with
  | .waitingOutput q _ => if q = p then s.modManagement fun m => { m with slot := .empty } else s
  | .empty => s
  | .serving _ _ => s

/-- The frames bus-off counts as drops: a forwarded frame in the transmitter and the forward queue
(R122). -/
def PortUnit.lostFrames (u : PortUnit) : Nat :=
  (match u.tx with
   | some (.forwarded _) => 1
   | some (.query _) => 0
   | some (.management _) => 0
   | none => 0) + u.forward.length

/-- The port's own part of an entry into BUS_OFF: steps 1 to 5 of R122, TEC and REC kept. -/
def PortUnit.enterBusOff (u : PortUnit) : PortUnit :=
  { u.flushed with
    state := .busOff, drops := sat16 u.drops u.lostFrames, busOffs := sat16 u.busOffs 1 }

/-- An entry into BUS_OFF with what the port tells its neighbours (R122), and the check that a look may still
owe (R95). -/
def enterBusOff (s : State) (p : Port) : State :=
  settleLook (pauseStream (losePort (dropWaiting (s.modPort p PortUnit.enterBusOff) p) p) p) s

/-- The port's own part of a rejoin: JOINING with TEC and REC at 0 (R123, R124). -/
def PortUnit.rejoin (u : PortUnit) : PortUnit := { u with state := .joining, txErrors := 0, rxErrors := 0 }

/-- A port enters ACTIVE, PASSIVE or LISTEN at a bus-idle event (R118). -/
def PortUnit.busIdleState (u : PortUnit) (row : PortRow) : PortState :=
  if row.listenOnly then .listen
  else if u.txErrors < 128 ∧ u.rxErrors < 128 then .active else .passive

/-- A port at SOFT_RESET: an enabled port enters JOINING, a disabled one stays OFF; everything queued
is removed uncounted, TEC and REC are 0, and the transmit arbiter is reset (R126, R164). -/
def PortUnit.softReset (u : PortUnit) (row : PortRow) : PortUnit :=
  { u.flushed.arbiterReset with
    state := if row.enable then .joining else .off, txErrors := 0, rxErrors := 0 }

/-- A port at the entry into SLEEP: everything queued is removed uncounted; an enabled port enters
DORMANT, with TEC and REC at 0 if it was BUS_OFF (R173). -/
def PortUnit.sleep (u : PortUnit) (row : PortRow) : PortUnit :=
  let v := u.flushed
  if row.enable then
    if u.state = .busOff then { v with state := .dormant, txErrors := 0, rxErrors := 0 }
    else { v with state := .dormant }
  else v

/-- A port at a wake: an enabled port enters JOINING with TEC and REC kept, its queues are empty and
its transmit arbiter is reset (R126, R137, R175). -/
def PortUnit.wake (u : PortUnit) (row : PortRow) : PortUnit :=
  { u.flushed.arbiterReset with state := if row.enable then .joining else .off }

/-- Every port changed, each with its own row. -/
def modAllPorts (s : State) (f : PortUnit → PortRow → PortUnit) : State :=
  allPorts.foldl (fun t p => t.modPort p fun u => f u (s.portRow p)) s

/-- A PORT row is applied, in the order of R125: new row, flush and arbiter reset, state with TEC and
REC at 0; then the port's dialogues end PORT_LOST and a stream to it pauses. The check that a look may still
owe follows (R95). -/
def applyPortRow (s : State) (p : Port) (row : PortRow) : State :=
  let t := s.modTables fun t => { t with ports := modifyAt t.ports p fun _ => row }
  let t := t.modPort p fun u =>
    { u.flushed.arbiterReset with
      state := if row.enable then .joining else .off, txErrors := 0, rxErrors := 0 }
  settleLook (pauseStream (losePort t p) p) s

end Sys2Proof.Machine
end

