-- ==== Sys2Proof/Machine/Arrivals.lean ====
section
/-! DEFINITION. What becomes of an arrival (chapter 7.7 and 7.8): classification, forwarding, handing
on by class, the recent ring, and taking a request into the request slot (R130, R155, R156). -/

namespace Sys2Proof.Machine

/-! ### Classification -/

/-- Whether an identifier matches a row's format, value and mask (R128). -/
def IdPattern.covers : IdPattern → CanId → Bool
  | .standard v m, .standard x => decide (x &&& m = v &&& m)
  | .extended v m, .extended x => decide (x &&& m = v &&& m)
  | .standard _ _, .extended _ => false
  | .extended _ _, .standard _ => false

/-- Whether a row matches an arrival (R128). -/
def IdentRow.covers (row : IdentRow) (p : Port) (id : CanId) : Bool :=
  row.enable && row.ingress.get p && row.pattern.covers id

/-- The matching row with the lowest number, if any (R128). -/
def State.classify (s : State) (p : Port) (f : Frame) : Option IdentRow :=
  ((List.finRange 96).map s.tables.ident.get).find? fun row => row.covers p f.id

/-! ### Forwarding -/

/-- The frame is offered to the forward queue of every port of the route set but the ingress port
(R129, R133). -/
def forwardFrame (s : State) (p : Port) (f : Frame) (route : PortSet) : State :=
  allPorts.foldl (fun t q =>
    if q ≠ p ∧ route.get q then t.modPort q fun u => u.offerForward f else t) s

/-! ### Class by class -/

/-- The stray count of a port rises by one (R82, R83, R126). -/
def countStray (s : State) (p : Port) : State :=
  s.modPort p fun u => { u with strays := sat16 u.strays 1 }

/-- The malformed count of a port rises by one (R114, R126). -/
def countMalformed (s : State) (p : Port) : State :=
  s.modPort p fun u => { u with malformed := sat16 u.malformed 1 }

/-- An ANNOUNCE data frame: one merge with the source ANNOUNCE, or a malformed frame (R112). -/
def takeAnnouncement (s : State) (p : Port) (row : IdentRow) (data : List Byte) : State :=
  match readAnnouncement (s.format row.descriptor) (s.stationRow row.station).defaultSeverity data with
  | some r => takeMerge s (r.merge row.station .announce)
  | none => countMalformed s p

/-- A header or record reaches the context bound to its station and is taken by the context's state,
or is a stray (R83). -/
def giveReply (s : State) (p : Port) (c : ContextNo) (d : Dialogue) (r : Reply) : State :=
  match d.phase, r with
  | .awaitHeader, .header n => takeHeader s c d n
  | .receiving, .record i rep => takeRecord s c d i rep
  | .sending, _ => countStray s p
  | .awaitHeader, .record _ _ => countStray s p
  | .receiving, .header _ => countStray s p

/-- Whether a reply on the port has an owner: its station is ENGAGED and the port is the station's home
port (R82). -/
def State.replyOwned (s : State) (p : Port) (st : StationNo) : Bool :=
  decide ((s.station st).run = .engaged) && decide ((s.stationRow st).homePort = p)

/-- A REPLY data frame, judged for owner, decoding and dialogue (R82). -/
def takeReply (s : State) (p : Port) (row : IdentRow) (data : List Byte) : State :=
  if s.replyOwned p row.station then
    match readReply (s.format row.descriptor) (s.stationRow row.station).defaultSeverity data with
    | none => countMalformed s p
    | some r =>
      match s.contextOf row.station with
      | none => countStray s p
      | some c =>
        match s.context c with
        | none => countStray s p
        | some d => giveReply s p c d r
  else countStray s p

/-- A KEY data frame (R49, R113). -/
def takeKey (s : State) (p : Port) (row : IdentRow) (data : List Byte) : State :=
  let d := s.format row.descriptor
  match readValue d data with
  | some raw => keyValue s raw d.keyMask d.keyOn
  | none => countMalformed s p

/-- A TIME data frame (R41, R45, R113). -/
def takeTime (s : State) (p : Port) (row : IdentRow) (data : List Byte) : State :=
  let d := s.format row.descriptor
  match readValue d data with
  | some raw => vehicleTime s (vehicleSeconds d raw)
  | none => countMalformed s p

/-- The code byte a response echoes: the request's byte 0, or 0x00 when it carries none (R153). -/
def requestCode (data : List Byte) : Byte := data.headD 0

/-- A request reaches the management unit: an EMPTY slot takes it and is SERVING; otherwise a BUSY
frame is queued if there is a free place, or the request-overrun count rises (R155, R156). -/
def takeRequest (s : State) (p : Port) (data : List Byte) : State :=
  match s.management.slot with
  | .empty => s.modManagement fun m => { m with slot := .serving p data }
  | .serving _ _ | .waitingOutput _ _ =>
    if 0 < s.freePlaces p then queueOutput s p [s.managementFrame [requestCode data, 0x01]]
    else s.modManagement fun m => { m with overruns := satAdd 255 m.overruns 1 }

/-- A MANAGE data frame is taken as a request on a port with management enabled in ACTIVE or PASSIVE,
otherwise discarded (R130). -/
def takeManage (s : State) (p : Port) (data : List Byte) : State :=
  if (s.portRow p).managementEnable && (s.port p).state.serves then takeRequest s p data else s

/-- An arrival is handed on according to its class; a remote frame goes no further than forwarding
(R106, R130). -/
def handOn (s : State) (p : Port) (f : Frame) (row : IdentRow) : State :=
  if f.remote then s
  else
    match row.cls with
    | .pass => s
    | .announce => takeAnnouncement s p row f.data
    | .reply => takeReply s p row f.data
    | .key => takeKey s p row f.data
    | .time => takeTime s p row f.data
    | .manage => takeManage s p f.data

/-! ### The whole arrival -/

/-- The newest outstanding capture trigger is taken. -/
def takeNewestTrigger (s : State) : State :=
  match s.snapshots.triggers.getLast? with
  | none => s
  | some t => takeTrigger (s.modSnapshots fun u => { u with triggers := u.triggers.dropLast }) t

/-- The ring entry of a SNAP-flagged arrival. Where its own merge has handed on a capture trigger, the
capture may be taken before the ring entry or after it (R149): a free choice. `before` is how many
triggers were outstanding before the arrival was handed on. -/
def ringStep (s : State) (before : Nat) (p : Port) (x : RingFrame) : State :=
  if before < s.snapshots.triggers.length then
    if Config.captureBeforeRing s.choices then enterRing (takeNewestTrigger s.choose) p x
    else enterRing s.choose p x
  else enterRing s p x

/-- REC falls by one, not below 0, in ACTIVE and PASSIVE (R120, R129). -/
def arrivalLowersRec (s : State) (p : Port) : State :=
  if (s.port p).state.serves then
    changeErrors s p fun u => { u with rxErrors := u.rxErrors - 1 }
  else s

/-- An arrival at a port that accepts frames, in the order of R129, after what it does to the
retention unit (R172, R174). -/
def takeArrival (s : State) (p : Port) (f : Frame) : State :=
  let tag : RingFrame := { frame := f, c := s.clock.c, ms := s.clock.ms }
  let s := arrivalLowersRec (arrivalSeen s) p
  match s.classify p f with
  | none => forwardFrame s p f (s.portRow p).defaultRoute
  | some row =>
    let t := if row.cls = .manage then s else forwardFrame s p f row.route
    let u := handOn t p f row
    if row.snap then ringStep u t.snapshots.triggers.length p tag else u

end Sys2Proof.Machine
end

