-- ==== Sys2Proof/Machine/Transmit.lean ====
section
/-! DEFINITION. The transmit arbiter and the transmitter (chapter 8.4, R121): the choice of the next
frame, and the outcome of an attempt. -/

namespace Sys2Proof.Machine

/-! ### The choice (R139) -/

/-- Whether the harvest source is ready: a query waits and the guard timer has elapsed (R139). -/
def PortUnit.harvestReady (u : PortUnit) : Bool := !u.harvest.isEmpty && u.guardTimer.isNone

/-- Whether a source is ready (R139). -/
def PortUnit.ready (u : PortUnit) : TxSource → Bool
  | .forward => !u.forward.isEmpty
  | .harvest => u.harvestReady
  | .management => !u.output.isEmpty

/-- The cycle forward, harvest, management from the source after the last-served one (R139). -/
def TxSource.cycleAfter : TxSource → List TxSource
  | .forward => [.harvest, .management, .forward]
  | .harvest => [.management, .forward, .harvest]
  | .management => [.forward, .harvest, .management]

/-- The source a choice takes: the almost-full override, then the round-robin (R139). -/
def PortUnit.chosenSource (u : PortUnit) (row : PortRow) : Option TxSource :=
  if row.almostFull ≤ u.forward.length ∧ u.forward ≠ [] then some .forward
  else u.lastServed.cycleAfter.find? u.ready

/-- The conditions of a choice that do not concern the sources: ACTIVE or PASSIVE with an empty
transmitter (R138). -/
def PortUnit.mayChoose (u : PortUnit) : Bool := u.state.serves && u.tx.isNone

/-- The head of a source is placed in the transmitter and leaves its source, which becomes the
last-served one; a harvest frame starts the guard timer (R139, R140). -/
def PortUnit.place (u : PortUnit) (row : PortRow) : TxSource → PortUnit
  | .forward =>
    match u.forward with
    | [] => u
    | f :: rest => { u with tx := some (.forwarded f), forward := rest, lastServed := .forward }
  | .harvest =>
    match u.harvest with
    | [] => u
    | q :: rest =>
      { u with tx := some (.query q), harvest := rest, lastServed := .harvest,
               guardTimer := startTimer row.guardInterval }
  | .management =>
    match u.output with
    | [] => u
    | f :: rest => { u with tx := some (.management f), output := rest, lastServed := .management }

/-- A choice of the port's transmit arbiter, if it can make one (R138, R139). -/
def PortUnit.choose (u : PortUnit) (row : PortRow) : PortUnit :=
  if u.mayChoose then
    match u.chosenSource row with
    | some src => u.place row src
    | none => u
  else u

/-! ### The outcome of an attempt (R121) -/

/-- A query's sent event: the context, if it is still in SENDING for the same grant, enters
AWAIT_HEADER and its wait timer starts (R81). -/
def querySent (s : State) (q : Query) : State :=
  match s.context q.context with
  | none => s
  | some d =>
    if d.phase = .sending ∧ d.grantTag = q.grantTag then
      s.setContext q.context (some
        { d with phase := .awaitHeader, waitTimer := some (s.stationRow d.station).waitTime })
    else s

/-- The source that supplied a frame is told it was sent (R121, R141). -/
def tellSource (s : State) : TxFrame → State
  | .query q => querySent s q
  | .forwarded _ => s
  | .management _ => s

/-- The frame in the transmitter is reported sent (R120, R121). -/
def frameSent (s : State) (p : Port) : State :=
  match (s.port p).tx with
  | none => s
  | some x =>
    if (s.port p).state.serves then
      tellSource (changeErrors s p fun u => { u with tx := none, txErrors := u.txErrors - 1 }) x
    else s

/-- An attempt of the frame in the transmitter fails: TEC rises by eight, and at 256 or more the port
enters BUS_OFF (R120, R121, R122). -/
def frameFailed (s : State) (p : Port) : State :=
  match (s.port p).tx with
  | none => s
  | some _ =>
    if (s.port p).state.serves then
      if 256 ≤ (s.port p).txErrors + 8 then
        enterBusOff (s.modPort p fun u => { u with txErrors := u.txErrors + 8 }) p
      else changeErrors s p fun u => { u with txErrors := u.txErrors + 8 }
    else s

end Sys2Proof.Machine
end

