-- ==== Sys2Proof/WellFormed.lean ====
section
/-! DEFINITION. Which frames and commands are well formed. Ports, stations, contexts and slots are
in range by their types; what is left to check is the shape of a frame and a sequence number. -/

namespace Sys2Proof

/-- A classic CAN frame has a data length of 0 to 8 and exactly that many data bytes, or none when
it is a remote frame (00_scope.md, Table 0.4; R143). -/
def Frame.wf (f : Frame) : Bool :=
  decide (f.dlc ≤ 8) && decide (f.data.length = if f.remote then 0 else f.dlc)

/-- A sequence number is 1 to 4,294,967,294 (R2, Table 1.1). -/
def sequenceOk (n : Nat) : Bool :=
  decide (1 ≤ n) && decide (n ≤ 4294967294)

/-- A well-formed command: an ARRIVAL carries a frame that the CAN bus can carry, and a
CAPTURE_TRIGGER names a sequence number in range. -/
def Instr.wf : Instr → Bool
  | .arrival _ f => f.wf
  | .captureTrigger n => sequenceOk n
  | .powerOn | .receiveError _ | .transmissionSent _ | .transmissionFailed _ | .lostArbitration _
  | .busIdle _ | .recoveryEvent _ | .transmitChoice _ | .guardTimerExpiry _ | .grant
  | .waitTimerExpiry _ | .internalTick | .holdTimerExpiry | .keyLossTimerExpiry | .roundTick
  | .roundEnd | .keyOffGraceExpiry | .postWindowExpiry _ | .queueHeldResponse | .exportLook
  | .snapshotLook | .queueNotice | .noticeIntervalExpiry | .sleepDelayExpiry | .saveComplete
  | .wake _ | .unknownRequest | .status | .portStatus | .stationStatus | .readRow | .readEntry
  | .stage | .commit | .softReset | .surveyStart | .surveyStop | .readNow | .setClock | .recover
  | .clear | .clearAll | .exportStart | .exportStop | .snapshot | .release | .notices => true

end Sys2Proof
end

