-- ==== Sys2Proof/Machine/BusCommands.lean ====
section
/-! DEFINITION. The meanings of the commands at the ports: arrivals, the controller's events, and the
transmit arbiter's steps. -/

namespace Sys2Proof.Machine

/-- ARRIVAL (R129): taken at a port in a state that accepts frames (Table 7.2), otherwise not an
arrival. An operand that is no CAN frame is refused. -/
def execArrival (p : Port) (f : Frame) (s : State) : Host.Outcome State Fault Refusal :=
  if f.wf then
    if (s.port p).state.accepts then .next (takeArrival s p f) else .next s
  else .refused .notACanFrame

/-- RECEIVE_ERROR (R120): REC rises by one, holding at 255, in ACTIVE and PASSIVE. -/
def execReceiveError (p : Port) (s : State) : Host.Outcome State Fault Refusal :=
  if (s.port p).state.serves then
    .next (changeErrors s p fun u => { u with rxErrors := satAdd 255 u.rxErrors 1 })
  else .next s

/-- TRANSMISSION_SENT (R121). -/
def execTransmissionSent (p : Port) (s : State) : Host.Outcome State Fault Refusal :=
  .next (frameSent s p)

/-- TRANSMISSION_FAILED (R121, R122). -/
def execTransmissionFailed (p : Port) (s : State) : Host.Outcome State Fault Refusal :=
  .next (checkSleep (frameFailed s p))

/-- LOST_ARBITRATION (R121): the frame stays in the transmitter and no count changes. -/
def execLostArbitration (_p : Port) (s : State) : Host.Outcome State Fault Refusal :=
  .next s

/-- BUS_IDLE (R118): a JOINING port enters LISTEN, ACTIVE or PASSIVE; on ACTIVE or PASSIVE a stream
paused on it resumes (R168) and the context arbiter looks (R77, R95). -/
def execBusIdle (p : Port) (s : State) : Host.Outcome State Fault Refusal :=
  if (s.port p).state = .joining then
    let t := s.modPort p fun u => { u with state := u.busIdleState (s.portRow p) }
    if (t.port p).state.serves then .next (lookCheck (resumeStream t p)) else .next t
  else .next s

/-- RECOVERY_EVENT (R123): a BUS_OFF port with auto-recover set enters JOINING. -/
def execRecoveryEvent (p : Port) (s : State) : Host.Outcome State Fault Refusal :=
  if (s.port p).state = .busOff ∧ (s.portRow p).autoRecover then .next (s.modPort p PortUnit.rejoin)
  else .next s

/-- TRANSMIT_CHOICE (R138, R139). -/
def execTransmitChoice (p : Port) (s : State) : Host.Outcome State Fault Refusal :=
  .next (s.modPort p fun u => u.choose (s.portRow p))

/-- GUARD_TIMER_EXPIRY (R140): the guard timer runs in ACTIVE and PASSIVE only. -/
def execGuardTimerExpiry (p : Port) (s : State) : Host.Outcome State Fault Refusal :=
  .next (s.modPort p fun u => if u.state.serves then { u with guardTimer := none } else u)

end Sys2Proof.Machine
end

