-- ==== Sys2Proof/Machine/PowerCommands.lean ====
section
/-! DEFINITION. The meanings of the power commands (chapter 12): power-on, the sleep delay, the end of a
save, and a wake. -/

namespace Sys2Proof.Machine

/-- The state as power is applied, before any key-on event: the image loaded when the mark is VALID, the
defaults otherwise, and every block in its power-on state (R176, Tables 1.2, 3.2, 4.6, 7.5, 9.4). The
queue of commands is not the part's, and is kept. -/
def powerOnBase (s : State) : State :=
  let valid := decide (s.retention.mark = .valid)
  let image := s.retention.image
  let tables := if valid then image.tables else Tables.default
  let store := if valid then { image.store with entries := image.store.entries.map Entry.saved }
    else Store.empty
  { pending := s.pending
    tables := tables
    store := store
    clock := if valid then Clock.start image.c image.k else Clock.start 0 0
    survey := Survey.start
    engine := Engine.start
    ports := mapAll (fun row => PortUnit.start (if row.enable then .joining else .off)) tables.ports
    snapshots := SnapshotUnit.start
    management := Management.start
    streamer := Streamer.start
    notice := NoticeUnit.start
    retention :=
      { power := .run
        sleepTimer := .running (seconds tables.general.sleepDelay)
        mark := s.retention.mark
        image := image
        imageLost := decide (s.retention.mark = .invalid) }
    choices := s.choices }

/-- The key-on event that follows power-on and wake at once under the key source NONE (R51). -/
def keyOnAtStart (s : State) : State :=
  match s.general.keySource with
  | .noSource => keyOnEvent s
  | .keyFrames => s

/-- POWER_ON (R176, R51). -/
def execPowerOn (s : State) : Host.Outcome State Fault Refusal :=
  .next (keyOnAtStart (powerOnBase s))

/-- SLEEP_DELAY_EXPIRY (R172): the running sleep-delay timer expires, and the retention unit checks its
conditions. -/
def execSleepDelayExpiry (s : State) : Host.Outcome State Fault Refusal :=
  match s.retention.sleepTimer with
  | .running _ => .next (checkSleep (s.modRetention fun r => { r with sleepTimer := .expired }))
  | .stopped => .next s
  | .expired => .next s

/-- What the entry into SLEEP does (R173), with the key-loss timer, which does not run in SLEEP (R50). -/
def enterSleep (s : State) : State :=
  let s := modAllPorts s PortUnit.sleep
  let s := s.modManagement fun m => { m with slot := .empty }
  let s := finishSlots (flushDue s)
  let s := s.modSurvey fun v => { v with grace := none }
  let s := s.modClock fun k => { k with keyLoss := none }
  s.modRetention fun r => { r with power := .sleep, sleepTimer := .stopped }

/-- SAVE_COMPLETE (R173): C and K are written as they stand, the mark becomes VALID, and the part enters
SLEEP. -/
def execSaveComplete (s : State) : Host.Outcome State Fault Refusal :=
  if s.retention.power = .saving then
    .next (enterSleep (s.modRetention fun r =>
      { r with mark := .valid, image := { r.image with c := s.clock.c, k := s.clock.k } }))
  else .next s

/-- The survey at a wake: PAUSED if it was RUNNING or DONE (Table 4.6). -/
def SurveyState.afterWake : SurveyState → SurveyState
  | .running | .done | .paused => .paused
  | .off => .off

/-- What a wake does (R175), with the arbiters' and the request slot's state after a wake (R77, R137,
R155). -/
def wakeUp (s : State) : State :=
  let s := emptyRings (modAllPorts s PortUnit.wake)
  let s := s.modClock fun k => { k with key := .off, keyLoss := none }
  let s := s.modSurvey fun v => { v with state := v.state.afterWake, tick := none, endDue := false, grace := none }
  let s := { s with engine := { s.engine with lastGranted := 2 } }
  let s := s.modManagement fun m => { m with slot := .empty }
  let s := s.modStreamer fun x => { x with state := .idle }
  restartSleep (s.modRetention fun r => { r with power := .run })

/-- WAKE (R175, R51): bus activity on an enabled port in SLEEP. -/
def execWake (p : Port) (s : State) : Host.Outcome State Fault Refusal :=
  if s.retention.power = .sleep ∧ (s.portRow p).enable then .next (keyOnAtStart (wakeUp s))
  else .next s

end Sys2Proof.Machine
end

