-- ==== Sys2Proof/Machine/Rows.lean ====
section
/-! DEFINITION. The staged row layouts (chapter 13.4, R178): each table's row as bytes, and the bytes
as a row, with the layout-level checks and then the field checks of the rule that owns the table. -/

namespace Sys2Proof.Machine

/-! ### Reading staged bytes -/

/-- The staged byte at a position, as a number. -/
def stagedByte (bs : List Byte) (i : Nat) : Nat := (bs.getD i 0).toNat

/-- A staged field of `w` bytes, most-significant-first (R178). -/
def stagedField (bs : List Byte) (i w : Nat) : Nat := ofBigEndian ((bs.drop i).take w)

/-- A value kept only when a check holds. -/
def keepIf {α : Type} (b : Bool) (x : Option α) : Option α := if b then x else none

/-- `x` when it lies in `lo` to `hi`. -/
def inRange (lo hi x : Nat) : Bool := decide (lo ≤ x) && decide (x ≤ hi)

/-! ### Identifiers -/

/-- An identifier field: bit 31 set for an extended identifier, the value in bits 28 to 0 (R177). -/
def idWord : CanId → Nat
  | .standard v => v.toNat
  | .extended v => 2147483648 + v.toNat

/-- An identifier field read: bits 30 and 29 must be clear, and a standard value must be at most 0x7FF
(R56, R127, R178). -/
def readId (w : Nat) : Option CanId :=
  if w < 2048 then some (.standard (BitVec.ofNat 11 w))
  else if 2147483648 ≤ w ∧ w < 2684354560 then some (.extended (BitVec.ofNat 29 w))
  else none

/-- The value field and the mask field of a pattern (R178). -/
def patternWords : IdPattern → Nat × Nat
  | .standard v m => (v.toNat, m.toNat)
  | .extended v m => (2147483648 + v.toNat, m.toNat)

/-- A pattern read: the mask takes its format from bit 31 of the value (R127, R178). -/
def readPattern (v m : Nat) : Option IdPattern :=
  match readId v with
  | some (.standard x) => if m < 2048 then some (.standard x (BitVec.ofNat 11 m)) else none
  | some (.extended x) => if m < 536870912 then some (.extended x (BitVec.ofNat 29 m)) else none
  | none => none

/-! ### Enumerated bytes -/

/-- The class byte (Table 13.7). -/
def classCode : FrameClass → Nat
  | .pass => 0 | .announce => 1 | .reply => 2 | .key => 3 | .time => 4 | .manage => 5

/-- The class of a class byte. -/
def classOf : Nat → Option FrameClass
  | 0 => some .pass
  | 1 => some .announce
  | 2 => some .reply
  | 3 => some .key
  | 4 => some .time
  | 5 => some .manage
  | _ => none

/-- The bit rate byte (Table 13.7). -/
def rateCode : BitRate → Nat
  | .kbit125 => 0 | .kbit250 => 1 | .kbit500 => 2

/-- The bit rate of a byte. -/
def rateOf : Nat → Option BitRate
  | 0 => some .kbit125
  | 1 => some .kbit250
  | 2 => some .kbit500
  | _ => none

/-- The survey mode byte (Tables 13.4 and 13.7). -/
def modeCode : SurveyMode → Nat
  | .oncePerCycle => 0 | .continuous => 1

/-- The survey mode of a byte. -/
def modeOf : Nat → Option SurveyMode
  | 0 => some .oncePerCycle
  | 1 => some .continuous
  | _ => none

/-- The clock source byte (Table 13.7). -/
def clockSourceCode : ClockSource → Nat
  | .internal => 0 | .vehicle => 1

/-- The clock source of a byte. -/
def clockSourceOf : Nat → Option ClockSource
  | 0 => some .internal
  | 1 => some .vehicle
  | _ => none

/-- The key source byte (Table 13.7). -/
def keySourceCode : KeySource → Nat
  | .noSource => 0 | .keyFrames => 1

/-- The key source of a byte. -/
def keySourceOf : Nat → Option KeySource
  | 0 => some .noSource
  | 1 => some .keyFrames
  | _ => none

/-- The byte order byte (Table 13.7). -/
def orderCode : ByteOrder → Nat
  | .mostSignificantFirst => 0 | .leastSignificantFirst => 1

/-- The byte order of a byte. -/
def orderOf : Nat → Option ByteOrder
  | 0 => some .mostSignificantFirst
  | 1 => some .leastSignificantFirst
  | _ => none

/-- The time divisor byte: 0 for 1, 1 for 10, 2 for 100, 3 for 1,000 (Table 13.7). -/
def divisorCode (d : Nat) : Nat :=
  if d = 1 then 0 else if d = 10 then 1 else if d = 100 then 2 else 3

/-- The time divisor of a byte. -/
def divisorOf : Nat → Option Nat
  | 0 => some 1
  | 1 => some 10
  | 2 => some 100
  | 3 => some 1000
  | _ => none

/-! ### Field bytes of a descriptor -/

/-- A position-and-width byte: position in the high four bits, width in the low four (R178). -/
def fieldByte (f : Field) : Byte := byte (16 * f.pos + f.width)

/-- A position-and-width byte read, unjudged. -/
def fieldOf (b : Nat) : Field := { pos := b / 16, width := b % 16 }

/-- A field whose width is one of `lo` to `hi` and whose bytes lie in the frame (R103, R178). -/
def Field.ok (f : Field) (lo hi : Nat) : Bool :=
  inRange lo hi f.width && decide (f.pos ≤ 7) && decide (f.pos + f.width ≤ 8)

/-- A count field: width 0 means none, and its position, a nibble, is not judged (R103, R178). -/
def Field.countOk (f : Field) : Bool := (decide (f.width = 0) && decide (f.pos ≤ 15)) || f.ok 1 2

/-- A position byte of a field that may be absent: 0xFF means none, and any other value above 7 fails
(R178). -/
def positionOf (b : Nat) : Option (Option Nat) :=
  if b = 255 then some none else if b ≤ 7 then some (some b) else none

/-- The byte of a position that may be absent. -/
def positionByte : Option Nat → Byte
  | none => 0xFF
  | some p => byte p

/-! ### IDENT rows (R127) -/

/-- An IDENT row in its staging layout (Table 13.7). -/
def encodeIdent (r : IdentRow) : List Byte :=
  let words := patternWords r.pattern
  [byte (flagBit 1 r.enable + flagBit 2 r.snap + 4 * portBits r.ingress),
   byte (classCode r.cls), byte (portBits r.route), byte r.station.val, byte r.descriptor.val] ++
    bigEndian 4 words.1 ++ bigEndian 4 words.2

/-- A staged IDENT row, if every check holds (R127, R178). -/
def decodeIdent (bs : List Byte) : Option IdentRow :=
  let flags := stagedByte bs 0
  match classOf (stagedByte bs 1), finOf 48 (stagedByte bs 3), finOf 12 (stagedByte bs 4),
      readPattern (stagedField bs 5 4) (stagedField bs 9 4) with
  | some cls, some st, some d, some pat =>
    keepIf (decide (flags < 32) && decide (stagedByte bs 2 < 8)) (some
      { enable := flags.testBit 0
        snap := flags.testBit 1
        ingress := portSetOf (flags / 4)
        cls := cls
        route := portSetOf (stagedByte bs 2)
        station := st
        descriptor := d
        pattern := pat })
  | _, _, _, _ => none

/-! ### STATION rows (R56) -/

/-- The field checks of R56 on a station row, against the round length in force. -/
def StationRow.ok (r : StationRow) (roundLength : Nat) : Bool :=
  inRange 1 8 r.templateLength && decide (r.slotOffset < roundLength) && inRange 1 16 r.window &&
    inRange 0 7 r.retryLimit && inRange 20 2550 r.waitTime && decide (r.waitTime % 10 = 0) &&
    inRange 0 7 r.defaultSeverity && inRange 0 4 r.postCount && inRange 0 2550 r.postWindow &&
    decide (r.postWindow % 10 = 0)

/-- A STATION row in its staging layout (Table 13.7). -/
def encodeStation (r : StationRow) : List Byte :=
  [byte (flagBit 1 r.enable + flagBit 2 r.announceTriggers + flagBit 4 r.snapEnable),
   byte r.homePort.val] ++ bigEndian 4 (idWord r.queryId) ++ [byte r.templateLength] ++
    r.template.toList ++ [byte r.descriptor.val] ++ bigEndian 2 r.slotOffset ++
    [byte r.window, byte r.retryLimit, byte (r.waitTime / 10), byte r.defaultSeverity,
     byte r.postCount, byte (r.postWindow / 10)]

/-- The eight template bytes of a staged STATION row (Table 13.7). -/
def stagedTemplate (bs : List Byte) : Vector Byte 8 :=
  #v[bs.getD 7 0, bs.getD 8 0, bs.getD 9 0, bs.getD 10 0, bs.getD 11 0, bs.getD 12 0,
    bs.getD 13 0, bs.getD 14 0]

/-- A staged STATION row, if every check holds (R56, R178). -/
def decodeStation (roundLength : Nat) (bs : List Byte) : Option StationRow :=
  let flags := stagedByte bs 0
  match finOf 3 (stagedByte bs 1), readId (stagedField bs 2 4), finOf 12 (stagedByte bs 15) with
  | some home, some id, some d =>
    let row : StationRow :=
      { enable := flags.testBit 0
        announceTriggers := flags.testBit 1
        snapEnable := flags.testBit 2
        homePort := home
        queryId := id
        templateLength := stagedByte bs 6
        template := stagedTemplate bs
        descriptor := d
        slotOffset := stagedField bs 16 2
        window := stagedByte bs 18
        retryLimit := stagedByte bs 19
        waitTime := 10 * stagedByte bs 20
        defaultSeverity := stagedByte bs 21
        postCount := stagedByte bs 22
        postWindow := 10 * stagedByte bs 23 }
    keepIf (decide (flags < 8) && row.ok roundLength) (some row)
  | _, _, _ => none

/-! ### FORMAT rows (R103) -/

/-- The wrap guard check: G is not 0, and is below M when there is a count field (R103). -/
def Descriptor.guardOk (d : Descriptor) : Bool :=
  decide (1 ≤ d.guardG) &&
    (decide (d.countField.width = 0) || decide (d.guardG < 256 ^ d.countField.width)) &&
    decide (d.guardG ≤ 65535)

/-- The status checks: a mask that is not 0, and three distinct values within it (R103). -/
def Descriptor.statusOk (d : Descriptor) : Bool :=
  decide (d.statusPos ≤ 7) && decide (d.statusMask ≠ 0) &&
    decide (d.activeValue &&& d.statusMask = d.activeValue) &&
    decide (d.pendingValue &&& d.statusMask = d.pendingValue) &&
    decide (d.storedValue &&& d.statusMask = d.storedValue) &&
    decide (d.activeValue ≠ d.pendingValue) && decide (d.activeValue ≠ d.storedValue) &&
    decide (d.pendingValue ≠ d.storedValue)

/-- The kind and severity positions are absent or in the frame, and with a kind position the two kind
values differ (R103). -/
def Descriptor.kindOk (d : Descriptor) : Bool :=
  (match d.kindPos with
   | none => true
   | some k => decide (k ≤ 7) && decide (d.headerKind ≠ d.recordKind)) &&
    (match d.severityPos with
     | none => true
     | some p => decide (p ≤ 7))

/-- The checks of Table 6.2 (R103). -/
def Descriptor.ok (d : Descriptor) : Bool :=
  d.kindOk && d.nField.ok 1 2 && d.indexField.ok 1 2 && d.codeField.ok 1 3 && d.countField.countOk &&
    d.guardOk && d.statusOk && d.queryStart.ok 1 2 && decide (d.queryWindow ≤ 7) &&
    d.valueField.ok 1 4 &&
    (decide (d.divisor = 1) || decide (d.divisor = 10) || decide (d.divisor = 100) ||
      decide (d.divisor = 1000)) &&
    decide (d.keyMask ≠ 0) && decide (d.keyOn &&& d.keyMask = d.keyOn)

/-- A FORMAT row in its staging layout (Table 13.7). -/
def encodeFormat (d : Descriptor) : List Byte :=
  [positionByte d.kindPos, d.headerKind, d.recordKind, fieldByte d.nField, fieldByte d.indexField,
   fieldByte d.codeField, fieldByte d.countField] ++ bigEndian 2 d.guardG ++
    [byte d.statusPos, d.statusMask, d.activeValue, d.pendingValue, d.storedValue,
     positionByte d.severityPos, byte (orderCode d.byteOrder), fieldByte d.queryStart,
     byte d.queryWindow, fieldByte d.valueField, byte (divisorCode d.divisor)] ++
    bigEndian 4 d.keyMask.toNat ++ bigEndian 4 d.keyOn.toNat

/-- A staged FORMAT row, if every check holds (R103, R178). -/
def decodeFormat (bs : List Byte) : Option Descriptor :=
  match positionOf (stagedByte bs 0), positionOf (stagedByte bs 14), orderOf (stagedByte bs 15),
      divisorOf (stagedByte bs 19) with
  | some kindPos, some severityPos, some order, some divisor =>
    let d : Descriptor :=
      { kindPos := kindPos
        headerKind := bs.getD 1 0
        recordKind := bs.getD 2 0
        nField := fieldOf (stagedByte bs 3)
        indexField := fieldOf (stagedByte bs 4)
        codeField := fieldOf (stagedByte bs 5)
        countField := fieldOf (stagedByte bs 6)
        guardG := stagedField bs 7 2
        statusPos := stagedByte bs 9
        statusMask := bs.getD 10 0
        activeValue := bs.getD 11 0
        pendingValue := bs.getD 12 0
        storedValue := bs.getD 13 0
        severityPos := severityPos
        byteOrder := order
        queryStart := fieldOf (stagedByte bs 16)
        queryWindow := stagedByte bs 17
        valueField := fieldOf (stagedByte bs 18)
        divisor := divisor
        keyMask := BitVec.ofNat 32 (stagedField bs 20 4)
        keyOn := BitVec.ofNat 32 (stagedField bs 24 4) }
    keepIf d.ok (some d)
  | _, _, _, _ => none

/-! ### PORT rows (R116) -/

/-- The field checks of R116 on a row for port `p`: ranges, and a default route set without the row's
own port. -/
def PortRow.ok (r : PortRow) (p : Port) : Bool :=
  decide (r.guardInterval ≤ 250) && inRange 1 24 r.almostFull && !(r.defaultRoute.get p)

/-- A PORT row in its staging layout (Table 13.7). -/
def encodePort (r : PortRow) : List Byte :=
  [byte (flagBit 1 r.enable + flagBit 2 r.listenOnly + flagBit 4 r.autoRecover +
      flagBit 8 r.managementEnable),
   byte (rateCode r.bitRate), byte (portBits r.defaultRoute), byte r.guardInterval,
   byte r.almostFull]

/-- A staged PORT row, if every check holds (R116, R178). -/
def decodePort (p : Port) (bs : List Byte) : Option PortRow :=
  let flags := stagedByte bs 0
  match rateOf (stagedByte bs 1) with
  | some rate =>
    let row : PortRow :=
      { enable := flags.testBit 0
        listenOnly := flags.testBit 1
        autoRecover := flags.testBit 2
        managementEnable := flags.testBit 3
        bitRate := rate
        defaultRoute := portSetOf (stagedByte bs 2)
        guardInterval := stagedByte bs 3
        almostFull := stagedByte bs 4 }
    keepIf (decide (flags < 16) && decide (stagedByte bs 2 < 8) && row.ok p) (some row)
  | none => none

/-! ### The GENERAL row (R158, Table 10.3) -/

/-- The field checks of Tables 10.3 and 4.5 (R62, R93, R158). -/
def GeneralRow.ok (r : GeneralRow) : Bool :=
  inRange 10 65535 r.roundLength && decide (r.backOff ≤ 15) && decide (r.keyOffGrace ≤ 60) &&
    inRange 1 64 r.minRun && decide (r.maxRun ≤ 255) && inRange 1 25 r.keyLossTime &&
    inRange 100 25500 r.noticeInterval && decide (r.noticeInterval % 100 = 0) &&
    inRange 10 600 r.sleepDelay

/-- The GENERAL row in its staging layout (Table 13.7). -/
def encodeGeneral (r : GeneralRow) : List Byte :=
  bigEndian 4 (idWord r.responseId) ++ [byte (modeCode r.surveyMode)] ++ bigEndian 2 r.roundLength ++
    [byte r.backOff, byte r.keyOffGrace, byte r.minRun, byte r.maxRun,
     byte (clockSourceCode r.clockSource), byte (keySourceCode r.keySource), byte r.keyLossTime,
     byte (flagBit 1 r.noticeEnable), byte r.noticePort.val, byte (r.noticeInterval / 100)] ++
    bigEndian 2 r.sleepDelay

/-- A staged GENERAL row, if every check holds (R158, R178). -/
def decodeGeneral (bs : List Byte) : Option GeneralRow :=
  match readId (stagedField bs 0 4), modeOf (stagedByte bs 4), clockSourceOf (stagedByte bs 11),
      keySourceOf (stagedByte bs 12), finOf 3 (stagedByte bs 15) with
  | some id, some mode, some clockSource, some keySource, some noticePort =>
    let row : GeneralRow :=
      { responseId := id
        surveyMode := mode
        roundLength := stagedField bs 5 2
        backOff := stagedByte bs 7
        keyOffGrace := stagedByte bs 8
        minRun := stagedByte bs 9
        maxRun := stagedByte bs 10
        clockSource := clockSource
        keySource := keySource
        keyLossTime := stagedByte bs 13
        noticeEnable := (stagedByte bs 14).testBit 0
        noticePort := noticePort
        noticeInterval := 100 * stagedByte bs 16
        sleepDelay := stagedField bs 17 2 }
    keepIf (decide (stagedByte bs 14 < 2) && row.ok) (some row)
  | _, _, _, _, _ => none

end Sys2Proof.Machine
end

