-- ==== Sys2Proof/Machine/Requests.lean ====
section
/-! DEFINITION. The management requests (chapters 10 and 13): request and result codes, the answer
frames, and the effect and answer of every request. A request is served from the request slot, where
its ARRIVAL put it (R155). -/

namespace Sys2Proof.Machine

/-! ### Codes (R177) -/

/-- The requests of Table 13.1, with CLEAR of one station and of all stations apart, and the frames that
name no request. -/
inductive RequestKind where
  | unknown | status | portStatus | stationStatus | readRow | stage | commit | softReset | surveyStart
  | surveyStop | readNow | setClock | recover | clear | clearAll | exportStart | exportStop | snapshot
  | release | notices | readEntry
  deriving DecidableEq, Repr

/-- The request that a code byte with its argument bytes names (Tables 13.1 and 13.4). -/
def kindOfCode (args : List Byte) : Nat → RequestKind
  | 0x01 => .status
  | 0x02 => .portStatus
  | 0x03 => .stationStatus
  | 0x04 => .readRow
  | 0x05 => .stage
  | 0x06 => .commit
  | 0x07 => .softReset
  | 0x08 => .surveyStart
  | 0x09 => .surveyStop
  | 0x0A => .readNow
  | 0x0B => .setClock
  | 0x0C => .recover
  | 0x0D => if args.head? = some 0xFF then .clearAll else .clear
  | 0x0E => .exportStart
  | 0x0F => .exportStop
  | 0x10 => .snapshot
  | 0x11 => .release
  | 0x12 => .notices
  | 0x13 => .readEntry
  | _ => .unknown

/-- The request of a MANAGE frame's data; a frame without data names none (R153). -/
def requestKind : List Byte → RequestKind
  | [] => .unknown
  | code :: args => kindOfCode args code.toNat

/-- The six results (Table 10.2). -/
inductive Result where
  | ok | busy | badRequest | badArg | deferred | notFound
  deriving DecidableEq, Repr

/-- The result codes (Table 13.2). -/
def Result.code : Result → Byte
  | .ok => 0x00
  | .busy => 0x01
  | .badRequest => 0x02
  | .badArg => 0x03
  | .deferred => 0x04
  | .notFound => 0x05

/-! ### Answers (R153, R154, R155) -/

/-- What serving a request gives: the state after its effect, the result, and bytes 2 to 7 of each
answer frame. -/
structure Answer where
  state : State
  result : Result
  bodies : List (List Byte)

/-- An answer in one frame without data (R154). -/
def plainAnswer (s : State) (r : Result) : Answer := { state := s, result := r, bodies := [[]] }

/-- An OK answer with data. -/
def okAnswer (s : State) (bodies : List (List Byte)) : Answer :=
  { state := s, result := .ok, bodies := bodies }

/-- The answer's frames are offered in order to the response port's management output queue; the slot
is EMPTY when all are queued, and otherwise holds the rest in WAITING_OUTPUT (R155). -/
def respond (s : State) (p : Port) (frames : List (List Byte)) : State :=
  let n := s.freePlaces p
  (queueOutput s p ((frames.take n).map s.managementFrame)).modManagement fun m =>
    { m with slot := if frames.length ≤ n then .empty else .waitingOutput p (frames.drop n) }

/-- The bytes of the answer frames: code, result, data (R153). -/
def answerFrames (code : Byte) (a : Answer) : List (List Byte) :=
  a.bodies.map fun b => pad8 (code :: a.result.code :: b)

/-- The request in the slot is served, if it is the named one: its effect and its answer are one step
(R155). Any other slot is left as it is. -/
def serve (s : State) (k : RequestKind) (effect : State → Port → List Byte → Answer) : State :=
  match s.management.slot with
  | .serving p data =>
    if requestKind data = k then
      let a := effect s p data
      respond a.state p (answerFrames (requestCode data) a)
    else s
  | .empty => s
  | .waitingOutput _ _ => s

/-- A request that needs `n` data bytes, the code among them, answers BAD_ARG when they are missing
(R153). -/
def needBytes (n : Nat) (s : State) (data : List Byte) (a : Answer) : Answer :=
  if data.length < n then plainAnswer s .badArg else a

/-! ### Status requests -/

/-- A frame that names no request (R153). -/
def serveUnknown (s : State) (_p : Port) (_data : List Byte) : Answer := plainAnswer s .badRequest

/-- The survey state byte (Table 13.5). -/
def surveyCode : SurveyState → Nat
  | .off => 0 | .running => 1 | .done => 2 | .paused => 3

/-- Table and row of the pending commit, 0xFF each when there is none (Table 13.5). -/
def pendingBytes : Option PendingCommit → List Byte
  | none => [0xFF, 0xFF]
  | some (.station n _) => [0x01, byte n.val]
  | some (.format n _) => [0x02, byte n.val]

/-- The flags byte of STATUS: key ON, image-lost, commit pending; the power state it reports is RUN
(R160, Table 13.5). -/
def statusFlags (s : State) : Byte :=
  byte (flagBit 1 (decide (s.clock.key = .on)) + flagBit 2 s.retention.imageLost +
    flagBit 4 s.management.pendingCommit.isSome)

/-- STATUS (R160). -/
def serveStatus (s : State) (_p : Port) (_data : List Byte) : Answer :=
  okAnswer s
    [[byte (surveyCode s.survey.state), statusFlags s] ++ bigEndian 4 s.clock.c,
     bigEndian 2 s.clock.k ++ bigEndian 2 s.store.entries.length ++ bigEndian 2 s.store.evictions,
     bigEndian 2 s.store.refusals ++ [byte s.management.overruns] ++
       pendingBytes s.management.pendingCommit]

/-- The port state byte (Table 13.5). -/
def portStateByte : PortState → Byte
  | .off => 0
  | .joining => 1
  | .active => 2
  | .passive => 3
  | .busOff => 4
  | .listen => 5
  | .dormant => Config.dormantCode

/-- The two frames PORT_STATUS gives for a port (Table 13.5). -/
def portReport (u : PortUnit) : List (List Byte) :=
  [[portStateByte u.state] ++ bigEndian 2 u.txErrors ++ [byte u.rxErrors] ++ bigEndian 2 u.drops,
   bigEndian 2 u.strays ++ bigEndian 2 u.malformed ++ bigEndian 2 u.busOffs]

/-- PORT_STATUS (R161). -/
def servePortStatus (s : State) (_p : Port) (data : List Byte) : Answer :=
  needBytes 2 s data
    (match finOf 3 (stagedByte data 1) with
     | some q => okAnswer s (portReport (s.port q))
     | none => plainAnswer s .badArg)

/-- The run-state byte (Table 13.5). -/
def runCode : RunState → Nat
  | .idle => 0 | .due => 1 | .engaged => 2

/-- The last outcome byte (Table 13.5). -/
def outcomeCode : Option Closing → Nat
  | none => 0
  | some .complete => 1
  | some .short => 2
  | some .abandoned => 3
  | some .suspended => 4
  | some .cut => 5
  | some .portLost => 6

/-- The three frames STATION_STATUS gives for a station (Table 13.5). -/
def stationReport (st : StationNo) (x : StationState) : List (List Byte) :=
  [[byte st.val, byte (runCode x.run), byte x.failures, byte (outcomeCode x.lastOutcome),
    byte (flagBit 1 x.lapped + flagBit 2 x.resume.isSome + flagBit 4 x.lastComplete.isSome)],
   bigEndian 2 ((x.resume.map (·.next)).getD 0) ++ bigEndian 2 ((x.resume.map (·.n)).getD 0),
   bigEndian 4 (x.lastComplete.getD 0)]

/-- STATION_STATUS: the station's state as it stands, and then its lapped flag is cleared (R61,
R161). -/
def serveStationStatus (s : State) (_p : Port) (data : List Byte) : Answer :=
  needBytes 2 s data
    (match finOf 48 (stagedByte data 1) with
     | some st =>
       okAnswer (s.modStation st fun x => { x with lapped := false })
         (stationReport st (s.station st))
     | none => plainAnswer s .badArg)

/-- The row in force that a table byte and a row byte name, in its staging layout (R158, R162,
R178). -/
def rowBytes (s : State) (table row : Nat) : Option (List Byte) :=
  match table with
  | 0 => (finOf 96 row).map fun n => encodeIdent (s.tables.ident.get n)
  | 1 => (finOf 48 row).map fun n => encodeStation (s.stationRow n)
  | 2 => (finOf 12 row).map fun n => encodeFormat (s.format n)
  | 3 => (finOf 3 row).map fun n => encodePort (s.portRow n)
  | 4 => if row = 0 then some (encodeGeneral s.general) else none
  | _ => none

/-- The bytes in runs of six, `n` of them. -/
def sixes : Nat → List Byte → List (List Byte)
  | 0, _ => []
  | n + 1, bs => bs.take 6 :: sixes n (bs.drop 6)

/-- The bodies of a READ_ROW answer: six bytes a frame, in ascending byte order (R162). -/
def rowBodies (bs : List Byte) : List (List Byte) := sixes ((bs.length + 5) / 6) bs

/-- READ_ROW (R162). -/
def serveReadRow (s : State) (_p : Port) (data : List Byte) : Answer :=
  needBytes 3 s data
    (match rowBytes s (stagedByte data 1) (stagedByte data 2) with
     | some bs => okAnswer s (rowBodies bs)
     | none => plainAnswer s .badArg)

/-- An active time's six bytes, 0x00 when it is absent (Table 13.5). -/
def stampBytes : Option Stamp → List Byte
  | some x => bigEndian 4 x.c ++ bigEndian 2 x.k
  | none => List.replicate 6 0

/-- The three frames READ_ENTRY gives for an entry (R163, Table 13.5). -/
def entryReport (e : Entry) : List (List Byte) :=
  [bigEndian 4 e.firstReport ++ [byte (flagBit 1 e.firstActive.isSome)],
   stampBytes e.firstActive, stampBytes e.lastActive]

/-- READ_ENTRY (R163). -/
def serveReadEntry (s : State) (_p : Port) (data : List Byte) : Answer :=
  needBytes 5 s data
    (match s.entry (stagedField data 1 4) with
     | some e => okAnswer s (entryReport e)
     | none => plainAnswer s .notFound)

/-! ### STAGE and COMMIT -/

/-- Bytes written into the staging buffer from an offset on (R157). -/
def writeStaging (v : Vector Byte 32) (i : Nat) : List Byte → Vector Byte 32
  | [] => v
  | b :: bs => writeStaging (v.setIfInBounds i b) (i + 1) bs

/-- STAGE (R157). -/
def serveStage (s : State) (_p : Port) (data : List Byte) : Answer :=
  needBytes 2 s data
    (let offset := stagedByte data 1
     let bytes := data.drop 2
     if 31 < offset ∨ 32 < offset + bytes.length then plainAnswer s .badArg
     else
       okAnswer (s.modManagement fun m => { m with staging := writeStaging m.staging offset bytes }) [[]])

/-- The general row's clock source is committed (R44). -/
def commitClockSource (s : State) (old new : ClockSource) : State :=
  match old, new with
  | .vehicle, .internal => s.modClock Clock.release
  | .internal, .vehicle => s
  | .internal, .internal => s
  | .vehicle, .vehicle => s

/-- The general row's key source is committed (R51). -/
def commitKeySource (s : State) (old new : KeySource) : State :=
  match old, new with
  | .keyFrames, .noSource =>
    let s := s.modClock fun k => { k with keyLoss := none }
    if s.clock.key = .off then keyOnEvent s else s
  | .noSource, .keyFrames => restartKeyLoss s
  | .noSource, .noSource => s
  | .keyFrames, .keyFrames => s

/-- The general row is applied at once, with the effects of R44 and R51; its other fields are read
where they are next used (R62, R93, R170, R172). -/
def applyGeneral (s : State) (row : GeneralRow) : State :=
  let old := s.general
  let s := s.modTables fun t => { t with general := row }
  commitKeySource (commitClockSource s old.clockSource row.clockSource) old.keySource row.keySource

/-- A decoded row, applied at once or failed (R158, steps 3 and 5). -/
def applyDecoded {α : Type} (s : State) (row : Option α) (apply : α → State) : Answer :=
  match row with
  | some r => plainAnswer (apply r) .ok
  | none => plainAnswer s .badArg

/-- A decoded row that a running dialogue may depend on: applied at once, or held as the pending commit
and answered DEFERRED (R158, steps 3 to 5). -/
def applyOrDefer (s : State) (pc : Option PendingCommit) : Answer :=
  match pc with
  | none => plainAnswer s .badArg
  | some c =>
    if s.commitWaits c then
      plainAnswer (s.modManagement fun m => { m with pendingCommit := some c }) .deferred
    else plainAnswer (applyPending s c) .ok

/-- Steps 2 to 5 of R158 for a table byte and a row byte. -/
def commitRow (s : State) (table row : Nat) : Answer :=
  let bs := s.management.staging.toList
  match table with
  | 0 =>
    match finOf 96 row with
    | some n =>
      applyDecoded s (decodeIdent bs) fun r =>
        s.modTables fun t => { t with ident := modifyAt t.ident n fun _ => r }
    | none => plainAnswer s .badArg
  | 1 =>
    match finOf 48 row with
    | some n => applyOrDefer s ((decodeStation s.general.roundLength bs).map (.station n))
    | none => plainAnswer s .badArg
  | 2 =>
    match finOf 12 row with
    | some n => applyOrDefer s ((decodeFormat bs).map (.format n))
    | none => plainAnswer s .badArg
  | 3 =>
    match finOf 3 row with
    | some n => applyDecoded s (decodePort n bs) (applyPortRow s n)
    | none => plainAnswer s .badArg
  | 4 => if row = 0 then applyDecoded s (decodeGeneral bs) (applyGeneral s) else plainAnswer s .badArg
  | _ => plainAnswer s .badArg

/-- COMMIT: BUSY while a commit is pending, then by table and row (R158). -/
def serveCommit (s : State) (_p : Port) (data : List Byte) : Answer :=
  needBytes 3 s data
    (if s.management.pendingCommit.isSome then plainAnswer s .busy
     else commitRow s (stagedByte data 1) (stagedByte data 2))

/-! ### SOFT_RESET and the survey requests -/

/-- What SURVEY STOP does to the survey: OFF with its round timer stopped, due queues flushed, grace
timer stopped, and every dialogue ended CUT (R74). -/
def stopSurvey (s : State) : State :=
  cutAll ((flushDue (stopRound s .off)).modSurvey fun v => { v with grace := none })

/-- The effects of SOFT_RESET on the blocks, in the order of R164. -/
def softReset (s : State) : State :=
  let s := s.modManagement fun m => { m with pendingCommit := none }
  let s := s.modStreamer fun x => { x with state := .idle }
  let s := (flushDue (stopRound s .off)).modSurvey fun v => { v with grace := none, roundNumber := 0 }
  let s := cutAll s
  let s := modAllPorts s PortUnit.softReset
  let s := { s with engine := { s.engine with lastGranted := 2 } }
  finishSlots (emptyRings s)

/-- SOFT_RESET (R164). -/
def serveSoftReset (s : State) (_p : Port) (_data : List Byte) : Answer := okAnswer (softReset s) [[]]

/-- The effect of a valid SURVEY START (R73). -/
def startSurvey (s : State) (mode : SurveyMode) : State :=
  let s := s.modTables fun t => { t with general := { t.general with surveyMode := mode } }
  let s := s.modSurvey fun v => { v with roundTimer := 0, roundNumber := 0 }
  match s.clock.key with
  | .on => startRound s
  | .off => stopRound s .paused

/-- SURVEY START (R73). -/
def serveSurveyStart (s : State) (_p : Port) (data : List Byte) : Answer :=
  needBytes 2 s data
    (match modeOf (stagedByte data 1) with
     | some mode => okAnswer (startSurvey s mode) [[]]
     | none => plainAnswer s .badArg)

/-- SURVEY STOP (R74). -/
def serveSurveyStop (s : State) (_p : Port) (_data : List Byte) : Answer := okAnswer (stopSurvey s) [[]]

/-- READ_NOW (R68). -/
def serveReadNow (s : State) (_p : Port) (data : List Byte) : Answer :=
  needBytes 2 s data
    (match finOf 48 (stagedByte data 1) with
     | none => plainAnswer s .badArg
     | some st =>
       if (s.stationRow st).enable = false then plainAnswer s .badArg
       else if (s.station st).run = .engaged then plainAnswer s .busy
       else okAnswer (makeUrgent s st) [[]])

/-! ### SET_CLOCK, RECOVER, CLEAR, RELEASE, NOTICES -/

/-- SET_CLOCK (R47). -/
def serveSetClock (s : State) (_p : Port) (data : List Byte) : Answer :=
  needBytes 5 s data (okAnswer (s.modClock fun k => k.setTo (stagedField data 1 4)) [[]])

/-- RECOVER (R124). -/
def serveRecover (s : State) (_p : Port) (data : List Byte) : Answer :=
  needBytes 2 s data
    (match finOf 3 (stagedByte data 1) with
     | none => plainAnswer s .badArg
     | some q =>
       if (s.port q).state = .busOff then okAnswer (s.modPort q PortUnit.rejoin) [[]]
       else plainAnswer s .badArg)

/-- CLEAR of one station (R19). -/
def serveClear (s : State) (_p : Port) (data : List Byte) : Answer :=
  needBytes 2 s data
    (match finOf 48 (stagedByte data 1) with
     | some st => okAnswer (clearStation s st) [bigEndian 2 (s.entriesOf st)]
     | none => plainAnswer s .badArg)

/-- CLEAR of all stations (R20). -/
def serveClearAll (s : State) (_p : Port) (_data : List Byte) : Answer :=
  okAnswer (clearStore s) [bigEndian 2 s.store.entries.length]

/-- RELEASE (R151). -/
def serveRelease (s : State) (_p : Port) (data : List Byte) : Answer :=
  needBytes 5 s data
    (match (s.entry (stagedField data 1 4)).bind (·.slot) with
     | some i => okAnswer (freeSlot s i) [[]]
     | none => plainAnswer s .notFound)

/-- NOTICES: the three fields of the general row are written (R170). -/
def serveNotices (s : State) (_p : Port) (data : List Byte) : Answer :=
  needBytes 4 s data
    (match finOf 3 (stagedByte data 2) with
     | some q =>
       if stagedByte data 3 = 0 then plainAnswer s .badArg
       else
         okAnswer (s.modTables fun t =>
           { t with general :=
             { t.general with
               noticeEnable := decide (stagedByte data 1 ≠ 0)
               noticePort := q
               noticeInterval := 100 * stagedByte data 3 } }) [[]]
     | none => plainAnswer s .badArg)

/-! ### EXPORT, EXPORT_STOP, SNAPSHOT -/

/-- The station filter byte: a station, or ALL (Table 13.4); anything else is out of range. -/
def filterOf (b : Nat) : Option (Option StationNo) :=
  if b = 255 then some none else (finOf 48 b).map some

/-- EXPORT (R166). -/
def serveExport (s : State) (p : Port) (data : List Byte) : Answer :=
  needBytes 7 s data
    (if s.streamer.state ≠ .idle then plainAnswer s .busy
     else
       match filterOf (stagedByte data 5) with
       | none => plainAnswer s .badArg
       | some filter =>
         let start := stagedField data 1 4
         okAnswer (s.modStreamer fun x =>
           { x with
             state := .streaming, kind := .entries, port := p, cursor := if start = 0 then 1 else start,
             filter := filter, changedOnly := decide (stagedByte data 6 ≠ 0), sent := 0 }) [[]])

/-- EXPORT_STOP (R168). -/
def serveExportStop (s : State) (_p : Port) (_data : List Byte) : Answer :=
  okAnswer (s.modStreamer fun x => { x with state := .idle }) [[]]

/-- A SNAPSHOT stream of a slot starts, and the slot's read flag is cleared (R169). -/
def startSnapshot (s : State) (p : Port) (seq : Nat) (i : SlotNo) : State :=
  (s.modStreamer fun x =>
    { x with
      state := .streaming, kind := .snapshot, port := p, sent := 0, slot := i,
      total := (s.slot i).pre.length + (s.slot i).post.length, owner := seq,
      slotLost := false }).modSlot i fun sl => { sl with read := false }

/-- SNAPSHOT (R169). -/
def serveSnapshot (s : State) (p : Port) (data : List Byte) : Answer :=
  needBytes 5 s data
    (if s.streamer.state ≠ .idle then plainAnswer s .busy
     else
       match (s.entry (stagedField data 1 4)).bind (·.slot) with
       | some i => okAnswer (startSnapshot s p (stagedField data 1 4) i) [[]]
       | none => plainAnswer s .notFound)

end Sys2Proof.Machine
end

