-- ==== Sys2Proof/Machine/RequestCommands.lean ====
section
/-! DEFINITION. The meanings of the management requests: each serves the request slot when the request
in it is its own (R155), and changes nothing otherwise. Serving may remove the last obstacle to a save
(a dialogue, the stream, the pending commit, or the request itself), so the retention unit checks its
conditions afterwards (R172). -/

namespace Sys2Proof.Machine

/-- UNKNOWN_REQUEST (R153). -/
def execUnknownRequest (s : State) : Host.Outcome State Fault Refusal :=
  .next (checkSleep (serve s .unknown serveUnknown))

/-- STATUS (R160). -/
def execStatus (s : State) : Host.Outcome State Fault Refusal :=
  .next (checkSleep (serve s .status serveStatus))

/-- PORT_STATUS (R161). -/
def execPortStatus (s : State) : Host.Outcome State Fault Refusal :=
  .next (checkSleep (serve s .portStatus servePortStatus))

/-- STATION_STATUS (R161, R61). -/
def execStationStatus (s : State) : Host.Outcome State Fault Refusal :=
  .next (checkSleep (serve s .stationStatus serveStationStatus))

/-- READ_ROW (R162). -/
def execReadRow (s : State) : Host.Outcome State Fault Refusal :=
  .next (checkSleep (serve s .readRow serveReadRow))

/-- READ_ENTRY (R163). -/
def execReadEntry (s : State) : Host.Outcome State Fault Refusal :=
  .next (checkSleep (serve s .readEntry serveReadEntry))

/-- STAGE (R157). -/
def execStage (s : State) : Host.Outcome State Fault Refusal :=
  .next (checkSleep (serve s .stage serveStage))

/-- COMMIT (R158). -/
def execCommit (s : State) : Host.Outcome State Fault Refusal :=
  .next (checkSleep (serve s .commit serveCommit))

/-- SOFT_RESET (R164). -/
def execSoftReset (s : State) : Host.Outcome State Fault Refusal :=
  .next (checkSleep (serve s .softReset serveSoftReset))

/-- SURVEY_START (R73). -/
def execSurveyStart (s : State) : Host.Outcome State Fault Refusal :=
  .next (checkSleep (serve s .surveyStart serveSurveyStart))

/-- SURVEY_STOP (R74). -/
def execSurveyStop (s : State) : Host.Outcome State Fault Refusal :=
  .next (checkSleep (serve s .surveyStop serveSurveyStop))

/-- READ_NOW (R68). -/
def execReadNow (s : State) : Host.Outcome State Fault Refusal :=
  .next (checkSleep (serve s .readNow serveReadNow))

/-- SET_CLOCK (R47). -/
def execSetClock (s : State) : Host.Outcome State Fault Refusal :=
  .next (checkSleep (serve s .setClock serveSetClock))

/-- RECOVER (R124). -/
def execRecover (s : State) : Host.Outcome State Fault Refusal :=
  .next (checkSleep (serve s .recover serveRecover))

/-- CLEAR of one station (R19). -/
def execClear (s : State) : Host.Outcome State Fault Refusal :=
  .next (checkSleep (serve s .clear serveClear))

/-- CLEAR of all stations (R20). -/
def execClearAll (s : State) : Host.Outcome State Fault Refusal :=
  .next (checkSleep (serve s .clearAll serveClearAll))

/-- EXPORT (R166). -/
def execExportStart (s : State) : Host.Outcome State Fault Refusal :=
  .next (checkSleep (serve s .exportStart serveExport))

/-- EXPORT_STOP (R168). -/
def execExportStop (s : State) : Host.Outcome State Fault Refusal :=
  .next (checkSleep (serve s .exportStop serveExportStop))

/-- SNAPSHOT (R169). -/
def execSnapshot (s : State) : Host.Outcome State Fault Refusal :=
  .next (checkSleep (serve s .snapshot serveSnapshot))

/-- RELEASE (R151). -/
def execRelease (s : State) : Host.Outcome State Fault Refusal :=
  .next (checkSleep (serve s .release serveRelease))

/-- NOTICES (R170). -/
def execNotices (s : State) : Host.Outcome State Fault Refusal :=
  .next (checkSleep (serve s .notices serveNotices))

end Sys2Proof.Machine
end

