-- ==== Sys2Proof/Machine/Streams.lean ====
section
/-! DEFINITION. What the management unit queues on its own (chapters 10.2 and 11): the held frames of
an answer, the frames of an export or of a snapshot stream, and notices. -/

namespace Sys2Proof.Machine

/-! ### Held responses (R155) -/

/-- A WAITING_OUTPUT slot queues its next held frame in a free place of its response port's queue; when
the last is queued the slot is EMPTY (R155). -/
def queueHeld (s : State) : State :=
  match s.management.slot with
  | .waitingOutput p (b :: rest) =>
    if 0 < s.freePlaces p then
      (queueOutput s p [s.managementFrame b]).modManagement fun m =>
        { m with slot := if rest = [] then .empty else .waitingOutput p rest }
    else s
  | .waitingOutput _ [] => s.modManagement fun m => { m with slot := .empty }
  | .empty => s
  | .serving _ _ => s

/-- Whether a held frame is the OK answer to an EXPORT or a SNAPSHOT request. -/
def startsStream (b : List Byte) : Bool :=
  (decide (b.head? = some 0x0E) || decide (b.head? = some 0x10)) && decide (b.getD 1 0xFF = 0x00)

/-- Whether the OK frame of the stream's own request is still held: the streamer takes its first look
once it has been queued (R166, R169). -/
def State.okHeld (s : State) : Bool :=
  match s.management.slot with
  | .waitingOutput _ held => held.any startsStream
  | .empty => false
  | .serving _ _ => false

/-- Whether the streamer looks for work on a stream of the kind (R165). -/
def State.streams (s : State) (k : StreamKind) : Bool :=
  decide (s.streamer.state = .streaming) && decide (s.streamer.kind = k) && !s.okHeld

/-! ### Export of entries (R166) -/

/-- The state bits of frame B (Table 13.3). -/
def entryStateCode : EntryState → Nat
  | .active => 0 | .pending => 1 | .stored => 2 | .gone => 3

/-- Frame A of an entry (Tables 13.3 and 13.6). -/
def entryFrameA (e : Entry) : List Byte :=
  byte (0x40 + e.station.val) :: (bigEndian 4 e.seq ++ bigEndian 3 e.code)

/-- The slot field of frame B: 31 when absent (Table 13.6). -/
def slotCode : Option SlotNo → Nat
  | some i => i.val
  | none => 31

/-- Frame B of an entry (Tables 13.3 and 13.6). -/
def entryFrameB (e : Entry) : List Byte :=
  byte (0x80 + 16 * entryStateCode e.state + 2 * e.peak + flagBit 1 e.missed) ::
    (bigEndian 4 e.lastReport ++ bigEndian 2 e.total ++
      [byte (flagBit 64 e.sources.announce + flagBit 128 e.sources.readback +
        flagBit 32 e.last.isSome + slotCode e.slot)])

/-- The export end frame (Table 13.6). -/
def exportEnd (sent next : Nat) : List Byte := 0x1D :: (bigEndian 2 sent ++ bigEndian 4 next)

/-- Whether an entry matches the stream (R166). -/
def Streamer.wants (x : Streamer) (e : Entry) : Bool :=
  (match x.filter with
   | some st => decide (e.station = st)
   | none => true) && (e.changed || !x.changedOnly)

/-- The matching entry with the lowest sequence number at or above the cursor; the entries stand by
rising sequence number (R166). -/
def State.nextExport (s : State) : Option Entry :=
  s.store.entries.find? fun e => decide (s.streamer.cursor ≤ e.seq) && s.streamer.wants e

/-- The entry found is queued: its two frames, the cursor past it, the sent count, and with the
changed-only flag its changed flag cleared (R166). -/
def exportEntry (s : State) (e : Entry) : State :=
  let t := queueOutput s s.streamer.port
    [s.managementFrame (entryFrameA e), s.managementFrame (entryFrameB e)]
  let t := t.modStreamer fun x => { x with cursor := e.seq + 1, sent := sat16 x.sent 1 }
  if s.streamer.changedOnly then t.modEntries (fun x => x.seq = e.seq) fun x => { x with changed := false }
  else t

/-- The end frame is queued and the streamer becomes IDLE (R166, R167). -/
def endExport (s : State) : State :=
  (queueOutput s s.streamer.port
    [s.managementFrame (exportEnd s.streamer.sent s.store.nextSeq)]).modStreamer fun x =>
      { x with state := .idle }

/-- A look of an ENTRIES stream (R166): with three free places or more, an entry or the end frame. -/
def lookExport (s : State) : State :=
  if s.streams .entries then
    if 3 ≤ s.freePlaces s.streamer.port then
      match s.nextExport with
      | some e => exportEntry s e
      | none => endExport s
    else s
  else s

/-! ### Snapshot streams (R169) -/

/-- The identifier field of a snapshot frame, with bit 30 set for a remote frame (Table 13.6). -/
def snapshotId (f : Frame) : Nat := idWord f.id + flagBit 1073741824 f.remote

/-- The first stream frame of a captured frame (Tables 13.3 and 13.6). -/
def snapshotFirst (x : RingFrame) (position : Nat) (post : Bool) : List Byte :=
  byte (0x20 + flagBit 16 post + position % 16) ::
    (bigEndian 4 (snapshotId x.frame) ++
      [byte (16 * x.frame.dlc + 4 * (x.c % 256 / 64) + x.ms / 256), byte (x.ms % 256),
       byteAt x.frame.data 7])

/-- The second stream frame of a captured frame (Tables 13.3 and 13.6). -/
def snapshotSecond (x : RingFrame) : List Byte :=
  byte (0xC0 + x.c % 64) :: (x.frame.data ++ List.replicate 7 0).take 7

/-- The snapshot end frame (Table 13.6). -/
def snapshotEnd (seq sent : Nat) (complete : Bool) : List Byte :=
  0x1F :: (bigEndian 4 seq ++ [byte sent, byte (flagBit 1 complete)])

/-- The end of a snapshot stream: its end frame is queued, the read flag is set when the stream is
complete, and the streamer becomes IDLE (R152, R169). -/
def endSnapshot (s : State) (complete : Bool) : State :=
  let x := s.streamer
  let t := queueOutput s x.port [s.managementFrame (snapshotEnd x.owner x.sent complete)]
  let t := if complete then t.modSlot x.slot fun sl => { sl with read := true } else t
  t.modStreamer fun x => { x with state := .idle }

/-- The next captured frame is queued as its two stream frames (R169). -/
def snapshotFrame (s : State) (f : RingFrame) : State :=
  let x := s.streamer
  let post := decide ((s.slot x.slot).pre.length ≤ x.sent)
  (queueOutput s x.port
    [s.managementFrame (snapshotFirst f x.sent post), s.managementFrame (snapshotSecond f)]).modStreamer
      fun x => { x with sent := sat16 x.sent 1 }

/-- A look of a SNAPSHOT stream (R169): the end frame when the slot has been freed or every frame has
been sent, otherwise the next captured frame. -/
def lookSnapshot (s : State) : State :=
  if s.streams .snapshot then
    let x := s.streamer
    let free := s.freePlaces x.port
    if x.slotLost then (if 1 ≤ free then endSnapshot s false else s)
    else if x.total ≤ x.sent then (if 1 ≤ free then endSnapshot s true else s)
    else if 3 ≤ free then
      match ((s.slot x.slot).pre ++ (s.slot x.slot).post)[x.sent]? with
      | some f => snapshotFrame s f
      | none => s
    else s
  else s

/-! ### Notices (R171) -/

/-- The conditions of a notice (R171). In SLEEP nothing is queued (R173, R175). -/
def State.noticeDue (s : State) : Bool :=
  s.general.noticeEnable && decide (s.notice.count ≠ 0) && s.notice.timer.isNone &&
    decide (0 < s.freePlaces s.general.noticePort) && decide (s.retention.power ≠ .sleep)

/-- The notice frame (Table 13.6). -/
def noticeFrame (n : NoticeUnit) : List Byte := 0x1E :: (bigEndian 4 (n.latest.getD 0) ++ [byte n.count])

/-- A notice is queued when its conditions hold: the count becomes 0 and the interval timer starts
(R171). -/
def queueNotice (s : State) : State :=
  if s.noticeDue then
    (queueOutput s s.general.noticePort [s.managementFrame (noticeFrame s.notice)]).modNotice fun n =>
      { n with count := 0, timer := some s.general.noticeInterval }
  else s

end Sys2Proof.Machine
end

