-- ==== Sys2Proof/Machine/StreamCommands.lean ====
section
/-! DEFINITION. The meanings of the management unit's own steps: held responses, the looks of the
streamer, and notices. -/

namespace Sys2Proof.Machine

/-- QUEUE_HELD_RESPONSE (R155). -/
def execQueueHeldResponse (s : State) : Host.Outcome State Fault Refusal := .next (queueHeld s)

/-- EXPORT_LOOK (R166); when the streamer becomes IDLE the retention unit checks (R172). -/
def execExportLook (s : State) : Host.Outcome State Fault Refusal := .next (checkSleep (lookExport s))

/-- SNAPSHOT_LOOK (R169); when the streamer becomes IDLE the retention unit checks (R172). -/
def execSnapshotLook (s : State) : Host.Outcome State Fault Refusal :=
  .next (checkSleep (lookSnapshot s))

/-- QUEUE_NOTICE (R171). -/
def execQueueNotice (s : State) : Host.Outcome State Fault Refusal := .next (queueNotice s)

/-- NOTICE_INTERVAL_EXPIRY (R171): the interval timer elapses. -/
def execNoticeIntervalExpiry (s : State) : Host.Outcome State Fault Refusal :=
  .next (s.modNotice fun n => { n with timer := none })

end Sys2Proof.Machine
end

