-- ==== Sys2Proof/Machine/TimerCommands.lean ====
section
/-! DEFINITION. The meanings of the internal steps of the dialogue engine, the clock, the survey and the
snapshot unit: grants, timer expiries, ticks and capture triggers. An expiry of a timer that is stopped
does not occur (R55): the command then changes nothing. -/

namespace Sys2Proof.Machine

/-- GRANT (R77, R78): the grant the arbiter's scans find, which abandons a save (R174); the preemption
check follows (R95). With nothing to grant, nothing changes. -/
def execGrant (s : State) : Host.Outcome State Fault Refusal :=
  match s.nextGrant with
  | some g => .next (lookCheck (bindContext (abandonSave s) g))
  | none => .next s

/-- A context whose wait timer runs: it is in AWAIT_HEADER or RECEIVING (R90). -/
def Dialogue.waits (d : Dialogue) : Bool := decide (d.phase ≠ .sending) && d.waitTimer.isSome

/-- WAIT_TIMER_EXPIRY (R90): a retry point. -/
def execWaitTimerExpiry (c : ContextNo) (s : State) : Host.Outcome State Fault Refusal :=
  match s.context c with
  | some d => if d.waits then .next (checkSleep (retryPoint s c)) else .next s
  | none => .next s

/-- INTERNAL_TICK (R43). -/
def execInternalTick (s : State) : Host.Outcome State Fault Refusal :=
  .next (s.modClock Clock.tick)

/-- HOLD_TIMER_EXPIRY (R46). -/
def execHoldTimerExpiry (s : State) : Host.Outcome State Fault Refusal :=
  .next (s.modClock fun k => if k.holdTimer.isSome then k.release else k)

/-- KEY_LOSS_TIMER_EXPIRY (R50): with the key state ON, a key-off event; with OFF, no effect but that
the timer stands stopped. -/
def execKeyLossTimerExpiry (s : State) : Host.Outcome State Fault Refusal :=
  match s.clock.keyLoss with
  | none => .next s
  | some _ =>
    let t := s.modClock fun k => { k with keyLoss := none }
    match s.clock.key with
    | .on => .next (keyOffEvent t)
    | .off => .next t

/-- ROUND_TICK (R63): a RUNNING survey's round timer rises; a round end that an earlier tick has brought
is taken first. -/
def execRoundTick (s : State) : Host.Outcome State Fault Refusal :=
  if s.survey.state = .running then
    let t := if s.survey.endDue then endRound s else s
    if t.survey.state = .running then .next (raiseRound t) else .next t
  else .next s

/-- ROUND_END (R63): the round ends that the last tick has brought to its length. -/
def execRoundEnd (s : State) : Host.Outcome State Fault Refusal :=
  if s.survey.state = .running ∧ s.survey.endDue then .next (endRound s) else .next s

/-- KEY_OFF_GRACE_EXPIRY (R72): every engaged dialogue is ended CUT. DESIGN CHOICE (notes/assumptions/23.md):
the retention unit's check of R172 comes next, before a grant that the closes make possible. -/
def execKeyOffGraceExpiry (s : State) : Host.Outcome State Fault Refusal :=
  match s.survey.grace with
  | some _ => .next (checkSleep (cutAll (s.modSurvey fun v => { v with grace := none })))
  | none => .next s

/-- CAPTURE_TRIGGER (R145): the oldest outstanding trigger for the entry is taken; none is taken in
SLEEP. -/
def execCaptureTrigger (seq : Nat) (s : State) : Host.Outcome State Fault Refusal :=
  match s.snapshots.triggers.find? fun t => t.seq = seq with
  | some t =>
    if s.retention.power = .sleep then .next s
    else .next (takeTrigger (s.modSnapshots fun u => { u with triggers := u.triggers.erase t }) t)
  | none => .next s

/-- POST_WINDOW_EXPIRY (R147): a FILLING slot becomes COMPLETE with the post frames it holds. -/
def execPostWindowExpiry (i : SlotNo) (s : State) : Host.Outcome State Fault Refusal :=
  .next (s.modSlot i Slot.finish)

end Sys2Proof.Machine
end

