-- ==== Sys2Proof/Machine/Dispatch.lean ====
section
/-! DEFINITION. The meaning of every command, one arm for each constructor of `Instr`. -/

namespace Sys2Proof.Machine

-- A command's effect on everything but the queue of commands.
def exec (i : Instr) (s : State) : Host.Outcome State Fault Refusal :=
  match i with
  | .powerOn => Sys2Proof.Machine.execPowerOn s
  | .arrival p f => Sys2Proof.Machine.execArrival p f s
  | .receiveError p => Sys2Proof.Machine.execReceiveError p s
  | .transmissionSent p => Sys2Proof.Machine.execTransmissionSent p s
  | .transmissionFailed p => Sys2Proof.Machine.execTransmissionFailed p s
  | .lostArbitration p => Sys2Proof.Machine.execLostArbitration p s
  | .busIdle p => Sys2Proof.Machine.execBusIdle p s
  | .recoveryEvent p => Sys2Proof.Machine.execRecoveryEvent p s
  | .transmitChoice p => Sys2Proof.Machine.execTransmitChoice p s
  | .guardTimerExpiry p => Sys2Proof.Machine.execGuardTimerExpiry p s
  | .grant => Sys2Proof.Machine.execGrant s
  | .waitTimerExpiry c => Sys2Proof.Machine.execWaitTimerExpiry c s
  | .internalTick => Sys2Proof.Machine.execInternalTick s
  | .holdTimerExpiry => Sys2Proof.Machine.execHoldTimerExpiry s
  | .keyLossTimerExpiry => Sys2Proof.Machine.execKeyLossTimerExpiry s
  | .roundTick => Sys2Proof.Machine.execRoundTick s
  | .roundEnd => Sys2Proof.Machine.execRoundEnd s
  | .keyOffGraceExpiry => Sys2Proof.Machine.execKeyOffGraceExpiry s
  | .captureTrigger sequence => Sys2Proof.Machine.execCaptureTrigger sequence s
  | .postWindowExpiry slot => Sys2Proof.Machine.execPostWindowExpiry slot s
  | .queueHeldResponse => Sys2Proof.Machine.execQueueHeldResponse s
  | .exportLook => Sys2Proof.Machine.execExportLook s
  | .snapshotLook => Sys2Proof.Machine.execSnapshotLook s
  | .queueNotice => Sys2Proof.Machine.execQueueNotice s
  | .noticeIntervalExpiry => Sys2Proof.Machine.execNoticeIntervalExpiry s
  | .sleepDelayExpiry => Sys2Proof.Machine.execSleepDelayExpiry s
  | .saveComplete => Sys2Proof.Machine.execSaveComplete s
  | .wake p => Sys2Proof.Machine.execWake p s
  | .unknownRequest => Sys2Proof.Machine.execUnknownRequest s
  | .status => Sys2Proof.Machine.execStatus s
  | .portStatus => Sys2Proof.Machine.execPortStatus s
  | .stationStatus => Sys2Proof.Machine.execStationStatus s
  | .readRow => Sys2Proof.Machine.execReadRow s
  | .readEntry => Sys2Proof.Machine.execReadEntry s
  | .stage => Sys2Proof.Machine.execStage s
  | .commit => Sys2Proof.Machine.execCommit s
  | .softReset => Sys2Proof.Machine.execSoftReset s
  | .surveyStart => Sys2Proof.Machine.execSurveyStart s
  | .surveyStop => Sys2Proof.Machine.execSurveyStop s
  | .readNow => Sys2Proof.Machine.execReadNow s
  | .setClock => Sys2Proof.Machine.execSetClock s
  | .recover => Sys2Proof.Machine.execRecover s
  | .clear => Sys2Proof.Machine.execClear s
  | .clearAll => Sys2Proof.Machine.execClearAll s
  | .exportStart => Sys2Proof.Machine.execExportStart s
  | .exportStop => Sys2Proof.Machine.execExportStop s
  | .snapshot => Sys2Proof.Machine.execSnapshot s
  | .release => Sys2Proof.Machine.execRelease s
  | .notices => Sys2Proof.Machine.execNotices s

end Sys2Proof.Machine
end

