-- ==== Sys2Proof/Machine/Idle.lean ====
section
/-! DEFINITION. What the part does while no command waits: the internal steps that are due, one at a
time, and when none is due, one millisecond of the timebase (R55). -/

namespace Sys2Proof.Machine

/-- The command that serves a request of the kind. -/
def RequestKind.command : RequestKind → Instr
  | .unknown => .unknownRequest
  | .status => .status
  | .portStatus => .portStatus
  | .stationStatus => .stationStatus
  | .readRow => .readRow
  | .stage => .stage
  | .commit => .commit
  | .softReset => .softReset
  | .surveyStart => .surveyStart
  | .surveyStop => .surveyStop
  | .readNow => .readNow
  | .setClock => .setClock
  | .recover => .recover
  | .clear => .clear
  | .clearAll => .clearAll
  | .exportStart => .exportStart
  | .exportStop => .exportStop
  | .snapshot => .snapshot
  | .release => .release
  | .notices => .notices
  | .readEntry => .readEntry

/-- One command, when its condition holds. -/
def dueIf (b : Bool) (c : Instr) : List Instr := if b then [c] else []

/-- What the request slot has due: serving its request, or queuing a held frame in a free place
(R155). -/
def slotDue (s : State) : List Instr :=
  match s.management.slot with
  | .empty => []
  | .serving _ data => [(requestKind data).command]
  | .waitingOutput p held => dueIf (decide (0 < s.freePlaces p) || held.isEmpty) .queueHeldResponse

/-- The outstanding capture triggers, outside SLEEP (R145). -/
def triggersDue (s : State) : List Instr :=
  if s.retention.power = .sleep then [] else s.snapshots.triggers.map fun t => .captureTrigger t.seq

/-- A timer whose interval has ended and whose expiry has not been taken. -/
def ended (t : Timer) : Bool := decide (t = some 0)

/-- The expiries that are due. -/
def expiriesDue (s : State) : List Instr :=
  dueIf (ended s.clock.holdTimer) .holdTimerExpiry ++
    dueIf (ended s.clock.keyLoss) .keyLossTimerExpiry ++
    dueIf (decide (s.survey.state = .running) && ended s.survey.tick) .roundTick ++
    dueIf (ended s.survey.grace) .keyOffGraceExpiry ++
    dueIf (ended s.notice.timer) .noticeIntervalExpiry ++
    dueIf (decide (s.retention.sleepTimer = .running 0)) .sleepDelayExpiry ++
    (allContexts.filter fun c =>
      match s.context c with
      | some d => d.waits && ended d.waitTimer
      | none => false).map .waitTimerExpiry ++
    (allPorts.filter fun p => (s.port p).state.serves && ended (s.port p).guardTimer).map
      .guardTimerExpiry ++
    (allSlots.filter fun i => decide ((s.slot i).state = .filling) && ended (s.slot i).timer).map
      .postWindowExpiry

/-- Whether a look of a snapshot stream would queue something (R169). DESIGN CHOICE (notes/assumptions/8.md): a
look is due again at once after a captured frame is queued or the slot is freed, without a new free place,
while the queue has the places for what comes next; R165 and R169 name no such look. -/
def State.snapshotLookDue (s : State) : Bool :=
  let x := s.streamer
  let free := s.freePlaces x.port
  s.streams .snapshot &&
    (((x.slotLost || decide (x.total ≤ x.sent)) && decide (1 ≤ free)) ||
      (decide (3 ≤ free) &&
        decide (x.sent < (s.slot x.slot).pre.length + (s.slot x.slot).post.length)))

/-- The looks and choices that would do something now: a grant (R77), a look of the streamer (R166,
R169), a notice (R171), a choice of a transmit arbiter (R138), and a round's end (R63). -/
def looksDue (s : State) : List Instr :=
  dueIf s.nextGrant.isSome .grant ++
    dueIf (s.streams .entries && decide (3 ≤ s.freePlaces s.streamer.port)) .exportLook ++
    dueIf s.snapshotLookDue .snapshotLook ++ dueIf s.noticeDue .queueNotice ++
    (allPorts.filter fun p =>
      (s.port p).mayChoose && ((s.port p).chosenSource (s.portRow p)).isSome).map .transmitChoice ++
    dueIf (decide (s.survey.state = .running) && s.survey.endDue) .roundEnd

/-- Every internal step that is due. -/
def dueSteps (s : State) : List Instr :=
  slotDue s ++ triggersDue s ++ expiriesDue s ++ looksDue s

/-- The internal step an idle part takes next, with the state it is taken in: the one that is due, or
one of several by a free choice, since the spec fixes no order among them (R79, R136, R142, R155). -/
def idleChoice (s : State) : Option (Instr × State) :=
  match dueSteps s with
  | [] => none
  | [c] => some (c, s)
  | c :: d :: rest =>
    some ((c :: d :: rest).getD (Config.dueChoice s.choices % (rest.length + 2)) c, s.choose)

/-! ### One millisecond of the timebase -/

/-- A running timer with one millisecond less to run. -/
def tickTimer (t : Timer) : Timer := t.map (· - 1)

/-- The clock after one millisecond: the millisecond counter advances, or passes 999 and makes an
internal tick; the hold timer runs (R43, R46). DESIGN CHOICE (notes/assumptions/21.md): an internal tick of the
millisecond in which the hold timer ends is taken first, with the hold still set. -/
def Clock.millisecond (k : Clock) : Clock :=
  let t := { k with holdTimer := tickTimer k.holdTimer }
  if k.ms < 999 then { t with ms := k.ms + 1 } else t.tick

/-- The sleep-delay timer after one millisecond. -/
def SleepTimer.millisecond : SleepTimer → SleepTimer
  | .running n => .running (n - 1)
  | .stopped => .stopped
  | .expired => .expired

/-- The timers of every block but the clock's after one millisecond (R55). A guard timer runs in ACTIVE
and PASSIVE only (R140). -/
def runTimers (s : State) : State :=
  { s with
    clock := { s.clock with keyLoss := tickTimer s.clock.keyLoss }
    survey := { s.survey with tick := tickTimer s.survey.tick, grace := tickTimer s.survey.grace }
    engine :=
      { s.engine with
        contexts := mapAll (Option.map fun d => { d with waitTimer := tickTimer d.waitTimer })
          s.engine.contexts }
    ports := mapAll (fun u =>
      if u.state.serves then { u with guardTimer := tickTimer u.guardTimer } else u) s.ports
    snapshots :=
      { s.snapshots with slots := mapAll (fun sl => { sl with timer := tickTimer sl.timer }) s.snapshots.slots }
    notice := { s.notice with timer := tickTimer s.notice.timer }
    retention := { s.retention with sleepTimer := s.retention.sleepTimer.millisecond } }

/-- One millisecond passes. In SLEEP the clock and its hold timer run (R175), and so does the notice interval,
which nothing stops there (R55, R171); every other timer is stopped. -/
def passMillisecond (s : State) : State :=
  let t := s.modClock Clock.millisecond
  if s.retention.power = .sleep then t.modNotice fun n => { n with timer := tickTimer n.timer }
  else runTimers t

end Sys2Proof.Machine
end

