-- ==== Sys2Proof/Machine/Step.lean ====
section
/-! DEFINITION. One step of the part: the command at the front of the queue, or, on an empty queue, the
next internal step that is due or one millisecond of the timebase. -/

namespace Sys2Proof.Machine

/-- One step. DESIGN CHOICE: on an empty queue the part goes on by itself (`idleChoice`,
`passMillisecond`). -/
def step (s : State) : Host.Outcome State Fault Refusal :=
  match s.pending with
  | c :: rest => exec c { s with pending := rest }
  | [] =>
    match idleChoice s with
    | some (c, t) => exec c t
    | none => .next (passMillisecond s)

/-- The state with the command that a table word spells put at the front of its queue; unchanged where
the word spells none. -/
def State.withFetchWord (s : State) (nbits w : Nat) : State :=
  match decodeTableWord nbits w with
  | some c => { s with pending := c :: s.pending }
  | none => s

end Sys2Proof.Machine
end

