-- ==== Sys2Proof/Safety.lean ====
section
/-! DEFINITION. What holds of the part at every moment: the ranges and relations the spec states of the
store, the clock, the ports, the survey, the dialogues, the snapshot slots and the tables. Each is a
property of one state; that a step keeps it is stated among the obligations. -/

namespace Sys2Proof.Machine

/-! ### Tables -/

/-- Every row of the tables passes the field checks of its owning rule (R56, R103, R116, R158). The slot
offset is judged against the round length only when a row is committed (R56), so here it is only a
16-bit number. -/
def Tables.Ok (t : Tables) : Prop :=
  (∀ st, (t.stations.get st).ok 65536 = true) ∧ (∀ d, (t.formats.get d).ok = true) ∧
    (∀ p, (t.ports.get p).ok p = true) ∧ t.general.ok = true

/-- A held row has passed the checks of its table (R158, R159). -/
def PendingCommit.Ok : PendingCommit → Prop
  | .station _ row => row.ok 65536 = true
  | .format _ row => row.ok = true

/-- The tables in force, the tables of the image and the pending row are rows that passed their
checks. -/
def TablesOk (s : State) : Prop :=
  s.tables.Ok ∧ s.retention.image.tables.Ok ∧
    ∀ pc, s.management.pendingCommit = some pc → pc.Ok

/-! ### The history store (R1, R2, R4, R5) -/

/-- The ranges of an entry's fields (Table 1.1). -/
def Entry.InRange (e : Entry) : Prop :=
  e.code ≤ 16777215 ∧ e.peak ≤ 7 ∧ 1 ≤ e.total ∧ e.total ≤ 65535 ∧
    (∀ x, e.last = some x → (x.m = 256 ∨ x.m = 65536) ∧ x.l < x.m ∧ 1 ≤ x.g ∧ x.g < x.m)

/-- The store holds at most 512 entries, by rising sequence number, all below next-sequence, no two with
one key, every field in its range; next-sequence and the counts are in range (R1, R2, R4, R5). -/
def Store.Ok (st : Store) : Prop :=
  st.entries.length ≤ 512 ∧ (st.entries.map Entry.seq).Pairwise (· < ·) ∧
    (∀ e ∈ st.entries, 1 ≤ e.seq ∧ e.seq < st.nextSeq ∧ e.InRange) ∧
    (st.entries.map fun e => (e.station, e.code)).Nodup ∧
    1 ≤ st.nextSeq ∧ st.nextSeq ≤ 4294967295 ∧ st.evictions ≤ 65535 ∧ st.refusals ≤ 65535

/-- The store in force and the store of the image are in order. -/
def StoreOk (s : State) : Prop := s.store.Ok ∧ s.retention.image.store.Ok

/-! ### The clock (R43, R45, R48) -/

/-- C, the millisecond counter and K are in range, and the hold flag is set exactly while its timer
runs. -/
def Clock.Ok (k : Clock) : Prop :=
  k.c ≤ 4294967295 ∧ k.ms ≤ 999 ∧ k.k ≤ 65535 ∧ k.hold = k.holdTimer.isSome

/-! ### The ports (R120, R126, R132 to R136) -/

/-- TEC, REC and the counts are in range; a forward queue holds at most 24 frames and a management output
queue at most 8; outside ACTIVE and PASSIVE the transmitter, the forward queue and the harvest output are
empty, and in BUS_OFF the management output queue too; TEC and REC agree with the state. -/
def PortUnit.Ok (u : PortUnit) : Prop :=
  u.txErrors ≤ 263 ∧ u.rxErrors ≤ 255 ∧ u.drops ≤ 65535 ∧ u.strays ≤ 65535 ∧ u.malformed ≤ 65535 ∧
    u.busOffs ≤ 65535 ∧ u.forward.length ≤ 24 ∧ u.output.length ≤ 8 ∧
    (u.state.serves = false → u.tx = none ∧ u.forward = [] ∧ u.harvest = []) ∧
    (u.state = .busOff → u.output = []) ∧
    (u.state = .active → u.txErrors < 128 ∧ u.rxErrors < 128) ∧
    (u.state = .passive → 128 ≤ u.txErrors ∨ 128 ≤ u.rxErrors) ∧
    (u.state ≠ .busOff → u.txErrors < 256)

/-- Every port is in order, and it is OFF exactly while its row is disabled (R117, R125, R126). -/
def PortsOk (s : State) : Prop :=
  ∀ p, (s.port p).Ok ∧ ((s.port p).state = .off ↔ (s.portRow p).enable = false)

/-! ### Stations, due queues and contexts (R58, R65, R77, R78) -/

/-- A station is DUE exactly while it stands in its home port's due queue, and urgent exactly while it
stands in the urgent group; it stands in no other queue, and no queue holds a station twice (R58,
R65). -/
def DueOk (s : State) : Prop :=
  (∀ st, ((s.station st).run = .due ↔
      st ∈ (s.due (s.stationRow st).homePort).urgent ∨ st ∈ (s.due (s.stationRow st).homePort).normal) ∧
    ((s.station st).urgent = true ↔ st ∈ (s.due (s.stationRow st).homePort).urgent)) ∧
  (∀ p st, st ∈ (s.due p).urgent ∨ st ∈ (s.due p).normal → (s.stationRow st).homePort = p) ∧
  ∀ p, ((s.due p).urgent ++ (s.due p).normal).Nodup

/-- A station is ENGAGED exactly while a context is bound to it, to no station more than one, and no port
has more than two contexts bound to its stations (R58, R76, R78). -/
def BindingsOk (s : State) : Prop :=
  (∀ st, (s.station st).run = .engaged ↔ ∃ c d, s.context c = some d ∧ d.station = st) ∧
  (∀ c c' d d', s.context c = some d → s.context c' = some d' → d.station = d'.station → c = c') ∧
  ∀ p, (s.contextsOf p).length ≤ 2

/-- A pending commit is that of a row which a running dialogue still keeps waiting (R159). -/
def PendingOk (s : State) : Prop :=
  ∀ pc, s.management.pendingCommit = some pc → s.commitWaits pc = true

/-- A bound context's station has its home port in ACTIVE or PASSIVE (R77, R99). -/
def PortsServeDialogues (s : State) : Prop :=
  ∀ c d, s.context c = some d → (s.port (s.dialoguePort d)).state.serves = true

/-- A dialogue's fields agree with its state: the wait timer runs exactly outside SENDING; RECEIVING holds
an N and a window end above the expected index, the window end not above N; a dialogue that has accepted a
record holds an N, and a set yield-pending flag comes with an accepted record; the resume N is present
exactly in a RESUMED pass without N; everything is in range (R76, R84 to R91, R96). -/
def Dialogue.Ok (d : Dialogue) : Prop :=
  (d.waitTimer.isSome = decide (d.phase ≠ .sending)) ∧
    (d.phase = .receiving → ∃ n, d.n = some n ∧ d.expected < d.windowEnd ∧ d.windowEnd ≤ n) ∧
    (1 ≤ d.run → d.n.isSome = true) ∧ (d.yieldPending = true → 1 ≤ d.run) ∧
    (d.resumeN.isSome = true ↔ d.origin = .resumed ∧ d.n = none) ∧
    d.retries ≤ 7 ∧ d.run ≤ 65535 ∧ d.expected ≤ 65535 ∧ (∀ n, d.n = some n → n ≤ 65535)

/-- A station's failure count is at most 15, its resume point lies in 0 to 65,535 twice over, and its last
complete time is a value of C (Table 4.2). -/
def StationState.Ok (x : StationState) : Prop :=
  x.failures ≤ 15 ∧ (∀ r, x.resume = some r → r.next ≤ 65535 ∧ r.n ≤ 65535) ∧
    ∀ c, x.lastComplete = some c → c ≤ 4294967295

/-- Every station's state is in range. -/
def StationsOk (s : State) : Prop := ∀ st, (s.station st).Ok

/-- Every dialogue is in order. -/
def DialoguesOk (s : State) : Prop := ∀ c d, s.context c = some d → d.Ok

/-- A query is that of a context in SENDING for the same grant, at the home port of its station (R81). -/
def State.queryLive (s : State) (p : Port) (q : Query) : Prop :=
  ∃ d, s.context q.context = some d ∧ d.phase = .sending ∧ d.grantTag = q.grantTag ∧
    s.dialoguePort d = p

/-- Every query of a harvest output is that of a context in SENDING, and no context has two there. The query
in a transmitter is either left over from an earlier grant, or that of a context in SENDING which has no
other query in the harvest output. A context in SENDING has its query in one of the two. Tags of grants are
below the count of grants (R81, R135). -/
def HarvestOk (s : State) : Prop :=
  (∀ p, ((s.port p).harvest.map Query.context).Nodup ∧ (∀ q ∈ (s.port p).harvest, s.queryLive p q) ∧
    ∀ q, (s.port p).tx = some (.query q) →
      q.grantTag < s.engine.grants ∧
        ∀ d, s.context q.context = some d → d.grantTag = q.grantTag →
          s.queryLive p q ∧ ∀ q' ∈ (s.port p).harvest, q'.context ≠ q.context) ∧
  ∀ c d, s.context c = some d →
    d.grantTag < s.engine.grants ∧
      (d.phase = .sending →
        ∃ q, q.context = c ∧ q.grantTag = d.grantTag ∧
          (q ∈ (s.port (s.dialoguePort d)).harvest ∨
            (s.port (s.dialoguePort d)).tx = some (.query q)))

/-! ### Snapshot slots (R144, R169) -/

/-- A bound slot's owner is an entry that holds the slot's number, and an entry that holds a slot number
owns that slot; a FREE slot is as R144 gives; a slot holds at most 12 pre frames and its post target at
most 4, and a FILLING slot has fewer post frames than its target and a running timer. -/
def SlotsOk (s : State) : Prop :=
  (∀ i, (s.slot i).state ≠ .free →
      ∃ e ∈ s.store.entries, (s.slot i).owner = some e.seq ∧ e.slot = some i) ∧
  (∀ e ∈ s.store.entries, ∀ i, e.slot = some i →
      (s.slot i).state ≠ .free ∧ (s.slot i).owner = some e.seq) ∧
  ∀ i, ((s.slot i).state = .free → s.slot i = Slot.freed) ∧ (s.slot i).pre.length ≤ 12 ∧
    (s.slot i).target ≤ 4 ∧ (s.slot i).post.length ≤ (s.slot i).target ∧
    ((s.slot i).state = .filling ↔ (s.slot i).timer.isSome = true) ∧
    ((s.slot i).state = .filling → (s.slot i).post.length < (s.slot i).target)

/-- A SNAPSHOT stream in progress whose slot has not been freed streams a bound slot of its owner, the slot's
read flag is clear, and the slot still holds the frames the stream was started with (R169). -/
def SnapshotStreamOk (s : State) : Prop :=
  s.streamer.state ≠ .idle → s.streamer.kind = .snapshot → s.streamer.slotLost = false →
    (s.slot s.streamer.slot).state ≠ .free ∧
      (s.slot s.streamer.slot).owner = some s.streamer.owner ∧
      (s.slot s.streamer.slot).read = false ∧
      s.streamer.total ≤ (s.slot s.streamer.slot).pre.length + (s.slot s.streamer.slot).post.length ∧
      s.streamer.sent ≤ s.streamer.total

/-- A recent ring holds at most 12 frames (R143). -/
def RingsOk (s : State) : Prop := ∀ p, (s.ring p).length ≤ 12

/-! ### Survey, notices and power -/

/-- The survey runs only with the key ON, its round timer ticks exactly while it runs, a running round that
is not to end has a timer below 65,535, and its numbers are in range (R62, R63). -/
def SurveyOk (s : State) : Prop :=
  (s.survey.state = .running → s.clock.key = .on) ∧
    (s.survey.state = .running ↔ s.survey.tick.isSome = true) ∧
    (s.survey.state = .running → s.survey.endDue = false → s.survey.roundTimer < 65535) ∧
    s.survey.roundTimer ≤ 65535 ∧ s.survey.roundNumber ≤ 65535

/-- The saturating counts of the management unit, the streamer and the notice unit are in range (R156, R165,
R170). -/
def CountsOk (s : State) : Prop :=
  s.management.overruns ≤ 255 ∧ s.streamer.sent ≤ 65535 ∧ s.notice.count ≤ 255 ∧
    (s.notice.count ≠ 0 → s.notice.latest.isSome = true)

/-- What holds while the part saves or sleeps: the key state is OFF, no context is bound, the streamer is
IDLE, no commit is pending and no request waits to be served (R172, R174). -/
def State.Quiet (s : State) : Prop :=
  s.clock.key = .off ∧ s.allFree = true ∧ s.streamer.state = .idle ∧
    s.management.pendingCommit = none ∧ s.serving = false

/-- In SAVING the part is quiet. In SLEEP it is quiet, the request slot is EMPTY, the due queues are empty,
every enabled port is DORMANT and every other port OFF, and no slot is FILLING. Outside SLEEP no port is
DORMANT (R172, R173). -/
def SleepOk (s : State) : Prop :=
  (s.retention.power = .saving → s.Quiet) ∧
  (s.retention.power = .sleep →
    s.Quiet ∧ s.management.slot = .empty ∧ (∀ p, s.due p = DueQueue.empty) ∧
      (∀ p, (s.port p).state = if (s.portRow p).enable then .dormant else .off) ∧
      ∀ i, (s.slot i).state ≠ .filling) ∧
  (s.retention.power ≠ .sleep → ∀ p, (s.port p).state ≠ .dormant)

/-- The part is not in RUN with every condition of sleep entry met: it goes to SAVING at the first moment
at which they all hold (R172). -/
def AwakeOk (s : State) : Prop := s.readyToSleep = false

/-- The image-valid mark is INVALID throughout a save (R173). -/
def MarkOk (s : State) : Prop := s.retention.power = .saving → s.retention.mark = .invalid

/-! ### All of it -/

/-- The part is in order: every property of this file holds. -/
structure State.Inv (s : State) : Prop where
  tables : TablesOk s
  store : StoreOk s
  clock : s.clock.Ok
  ports : PortsOk s
  due : DueOk s
  bindings : BindingsOk s
  waiting : PendingOk s
  serving : PortsServeDialogues s
  stations : StationsOk s
  dialogues : DialoguesOk s
  harvest : HarvestOk s
  slots : SlotsOk s
  stream : SnapshotStreamOk s
  rings : RingsOk s
  survey : SurveyOk s
  counts : CountsOk s
  sleep : SleepOk s
  mark : MarkOk s
  awake : AwakeOk s

/-! ### What a look of the context arbiter may change -/

/-- `t` is `s` but for yield-pending flags that have been set: what the max run checks and the preemption
check may do (R94, R95). -/
def State.YieldOnly (s t : State) : Prop :=
  t = { s with engine := { s.engine with contexts := t.engine.contexts } } ∧
    ∀ c, t.context c = s.context c ∨
      t.context c = (s.context c).map fun d => { d with yieldPending := true }

end Sys2Proof.Machine
end

