-- ==== Sys2Proof/Certificates/Slice0/Obligations.lean ====
section
/-! DEFINITION. The statements for the provers. Each says in its docstring which rules of spec/ it
formalises, and where it rests on a choice of the model, which entry of notes/assumptions/ names it. -/

open Sys2Proof Sys2Proof.Machine

/-! ### The machine -/

/-- A step takes the command at the front of the queue and runs it on the state with the queue's rest. The
queue of waiting commands is the model's own (notes/assumptions/18.md), and that its order is the order in
which the part's steps, each whole and indivisible, are taken is the model's choice (20.md). -/
def Obligations.StepRunsFrontCommand : Prop :=
  ∀ (c : Instr) (s : State), step { s with pending := c :: s.pending } = exec c s

/-- On an empty queue the part goes on by itself: the one internal step that is due, one of several by a free
choice, or a millisecond of the timebase. That is the model's choice (notes/assumptions/3.md). In a
millisecond the millisecond counter advances or passes 999 and makes an internal tick, which raises C while
the hold is clear and C is below its maximum; every running timer, the sleep-delay timer among them, has one
millisecond less to run, a guard timer in ACTIVE and PASSIVE only; in SLEEP the clock, its hold timer and the
notice interval run; nothing else changes (R43, R54, R55, R140, R172, R175). The model's own: a timer is
counted down in whole milliseconds (4.md); a tick is taken with the hold as it stood, and an expiry of the
hold timer in the same millisecond comes after it (21.md); and the notice interval runs in SLEEP, as R55 is
read (14.md). -/
def Obligations.IdlePartGoesOn : Prop :=
  ∀ s : State,
    (s.pending = [] →
      (dueSteps s = [] → step s = .next (passMillisecond s)) ∧
      (∀ c, dueSteps s = [c] → step s = exec c s) ∧
      (2 ≤ (dueSteps s).length → ∃ c ∈ dueSteps s, step s = exec c s.choose)) ∧
    let t := passMillisecond s
    (s.clock.ms < 999 → t.clock.ms = s.clock.ms + 1 ∧ t.clock.c = s.clock.c) ∧
    (s.clock.ms = 999 → t.clock.ms = 0 ∧
      t.clock.c = if s.clock.hold = false ∧ s.clock.c < 4294967295 then s.clock.c + 1 else s.clock.c) ∧
    t.clock.holdTimer = s.clock.holdTimer.map (· - 1) ∧ t.clock.hold = s.clock.hold ∧
    t.clock.k = s.clock.k ∧ t.clock.key = s.clock.key ∧
    (s.retention.power = .sleep →
      t = { s with clock := t.clock, notice := { s.notice with timer := s.notice.timer.map (· - 1) } } ∧
      t.clock.keyLoss = s.clock.keyLoss) ∧
    (s.retention.power ≠ .sleep →
      t.clock.keyLoss = s.clock.keyLoss.map (· - 1) ∧
      t.survey = { s.survey with tick := s.survey.tick.map (· - 1), grace := s.survey.grace.map (· - 1) } ∧
      (∀ c, t.context c = (s.context c).map fun d => { d with waitTimer := d.waitTimer.map (· - 1) }) ∧
      (∀ p, t.port p =
        if (s.port p).state = .active ∨ (s.port p).state = .passive then
          { s.port p with guardTimer := (s.port p).guardTimer.map (· - 1) }
        else s.port p) ∧
      (∀ i, t.slot i = { s.slot i with timer := (s.slot i).timer.map (· - 1) }) ∧
      t.notice = { s.notice with timer := s.notice.timer.map (· - 1) } ∧
      t.retention = { s.retention with sleepTimer := match s.retention.sleepTimer with
        | .running n => .running (n - 1)
        | .stopped => .stopped
        | .expired => .expired } ∧
      t = { s with
        clock := t.clock, survey := t.survey, ports := t.ports, notice := t.notice, retention := t.retention
        engine := { s.engine with contexts := t.engine.contexts }
        snapshots := { s.snapshots with slots := t.snapshots.slots } })

/-- The state after reset is in order, and a power-on of a part with a BLANK array leads to it (R176,
Tables 1.2, 3.2, 4.6, 7.5, 9.4). That the state after reset is that power-on is the model's choice
(notes/assumptions/2.md), as are the values of its own fields and of fields without meaning (18.md, 19.md). -/
def Obligations.ResetIsInOrder : Prop :=
  State.reset.Inv ∧ State.reset.pending = [] ∧ State.reset.tables = Tables.default ∧
    State.reset.store = Store.empty ∧ State.reset.retention.power = .run ∧
    State.reset.retention.mark = .blank ∧ State.reset.clock.k = 1 ∧ State.reset.clock.key = .on ∧
    (State.reset.port 0).state = .joining ∧ (State.reset.port 1).state = .off ∧
    (State.reset.port 2).state = .off ∧ exec .powerOn State.reset = .next State.reset

/-! ### Invariants that every step keeps -/

/-- The tables hold rows that pass their checks, the clock, the counts, the rings and the station state stay
in their ranges, and the survey runs only with the key ON, its tick running exactly while it does (R43, R48,
R56, R58, R62, R63, R103, R116, R143, R156, R158, R165, R170). The flag of a round that is to end is the
model's own (notes/assumptions/6.md). -/
def Obligations.StepKeepsRanges : Prop :=
  ∀ s t : State, s.Inv → step s = .next t →
    TablesOk t ∧ t.clock.Ok ∧ CountsOk t ∧ RingsOk t ∧ StationsOk t ∧ SurveyOk t

/-- The store never holds more than 512 entries, no two share a key or a sequence number, every sequence
number is below next-sequence, and every field keeps its range (R1, R2, R4, R5, R26, R33). -/
def Obligations.StepKeepsStore : Prop :=
  ∀ s t : State, s.Inv → step s = .next t → StoreOk t

/-- Slots and entries stay bound one to one, FREE slots stay empty, FILLING slots keep their target and
their timer, and a SNAPSHOT stream keeps its slot (R144, R146, R147, R150, R169). A FREE slot's port 0 is the
model's choice, since R144 states none (notes/assumptions/19.md), and the streamer's notes of its slot's owner
and loss are fields of the model's own (18.md). -/
def Obligations.StepKeepsSlots : Prop :=
  ∀ s t : State, s.Inv → step s = .next t → SlotsOk t ∧ SnapshotStreamOk t

/-- Port states agree with TEC and REC, queues keep within their capacities and stay empty outside the
states that fill them, counts stay in range (R120, R126, R132, R134, R135, R136). -/
def Obligations.StepKeepsPorts : Prop :=
  ∀ s t : State, s.Inv → step s = .next t → PortsOk t

/-- Stations stand in their due queues exactly while DUE and are bound to a context exactly while ENGAGED,
no port has more than two contexts, each bound station's port serves, and a pending commit is of a row that a
dialogue still keeps waiting (R58, R65, R77, R78, R99, R159). -/
def Obligations.StepKeepsBindings : Prop :=
  ∀ s t : State, s.Inv → step s = .next t →
    DueOk t ∧ BindingsOk t ∧ PortsServeDialogues t ∧ PendingOk t

/-- The fields of every dialogue keep to its state, and every context in SENDING has exactly one query, in
its port's harvest output or transmitter (R76, R81, R84 to R91, R96, R135). The tag that ties a query to its
grant is the model's own (notes/assumptions/18.md). -/
def Obligations.StepKeepsDialogues : Prop :=
  ∀ s t : State, s.Inv → step s = .next t → DialoguesOk t ∧ HarvestOk t

/-- The part saves and sleeps only while it is quiet, ports are DORMANT or OFF exactly in SLEEP, the mark is
INVALID throughout a save, and the part never stays in RUN with every condition of sleep entry met (R172,
R173). That a request in the slot holds the save back is the model's choice (notes/assumptions/1.md), and so is
that a grant which could still be made does not (23.md). -/
def Obligations.StepKeepsPower : Prop :=
  ∀ s t : State, s.Inv → step s = .next t → SleepOk t ∧ MarkOk t ∧ AwakeOk t

/-! ### Rules about every command -/

/-- While power stays applied C decreases only on SET_CLOCK, and K never decreases and stops at 65,535 (R43,
R48). -/
def Obligations.ClockNeverRunsBack : Prop :=
  (∀ (i : Instr) (s t : State), exec i s = .next t → i ≠ .powerOn →
    (i ≠ .setClock → s.clock.c ≤ t.clock.c) ∧
    (s.clock.k ≤ 65535 → s.clock.k ≤ t.clock.k ∧ t.clock.k ≤ 65535)) ∧
  ∀ s : State, s.clock.c ≤ (passMillisecond s).clock.c ∧ (passMillisecond s).clock.k = s.clock.k

/-- An entry that a command leaves in the store keeps its station, code, first report time and first active
time, its T and peak severity never fall, it keeps holding L, and its sources never shrink; any other entry
is new, with a sequence number not below the old next-sequence; next-sequence never falls (R2, R4, R26, R30,
R33 to R36). -/
def Obligations.EntriesKeepTheirPast : Prop :=
  ∀ (i : Instr) (s t : State), s.store.Ok → i ≠ .powerOn → exec i s = .next t →
    s.store.nextSeq ≤ t.store.nextSeq ∧
    ∀ e' ∈ t.store.entries,
      (∃ e ∈ s.store.entries, e.seq = e'.seq ∧ e.station = e'.station ∧ e.code = e'.code ∧
        e.total ≤ e'.total ∧ e.peak ≤ e'.peak ∧ e.firstReport = e'.firstReport ∧
        (e.firstActive ≠ none → e'.firstActive = e.firstActive) ∧
        (e.lastActive ≠ none → e'.lastActive ≠ none) ∧ (e.last ≠ none → e'.last ≠ none) ∧
        (e.sources.announce = true → e'.sources.announce = true) ∧
        (e.sources.readback = true → e'.sources.readback = true)) ∨
      (s.store.nextSeq ≤ e'.seq ∧ e'.seq < t.store.nextSeq)

/-- An entry becomes GONE only at an arrival that closes the dialogue of its station COMPLETE, with its seen
mark clear (R15). -/
def Obligations.GoneOnlyAtComplete : Prop :=
  ∀ (i : Instr) (s t : State), s.store.Ok → i ≠ .powerOn → exec i s = .next t →
    ∀ e ∈ s.store.entries, ∀ e' ∈ t.store.entries, e.seq = e'.seq → e.state ≠ .gone → e'.state = .gone →
      (∃ p f, i = .arrival p f) ∧ (s.station e.station).run = .engaged ∧
        (t.station e.station).lastOutcome = some .complete ∧ e'.seen = false ∧ e'.changed = true

/-! ### Staged rows -/

/-- An IDENT row is read from the staging buffer exactly when the first 13 bytes are its layout: every row
reads back as it was written, and no bit of the layout is dropped (R127, R178). Which bit of a port set names
which port is the model's choice (notes/assumptions/12.md). -/
def Obligations.IdentRowsRoundTrip : Prop :=
  ∀ (bs : List Byte) (r : IdentRow), 13 ≤ bs.length →
    (decodeIdent bs = some r ↔ bs.take 13 = encodeIdent r)

/-- The same of STATION and PORT rows that pass the field checks (R56, R116, R178). Which bit of a route set
names which port is the model's choice (notes/assumptions/12.md). -/
def Obligations.StationAndPortRowsRoundTrip : Prop :=
  (∀ (bs : List Byte) (r : StationRow) (len : Nat), 24 ≤ bs.length → len ≤ 65535 →
    (decodeStation len bs = some r ↔ r.ok len = true ∧ bs.take 24 = encodeStation r)) ∧
  ∀ (bs : List Byte) (r : PortRow) (p : Port), 5 ≤ bs.length →
    (decodePort p bs = some r ↔ r.ok p = true ∧ bs.take 5 = encodePort r)

/-- The same of FORMAT and GENERAL rows that pass the field checks (R103, R158, R178). That the position nibble
of an absent count field is kept is the model's reading (notes/assumptions/12.md). -/
def Obligations.FormatAndGeneralRowsRoundTrip : Prop :=
  (∀ (bs : List Byte) (d : Descriptor), 28 ≤ bs.length →
    (decodeFormat bs = some d ↔ d.ok = true ∧ bs.take 28 = encodeFormat d)) ∧
  ∀ (bs : List Byte) (r : GeneralRow), 19 ≤ bs.length →
    (decodeGeneral bs = some r ↔ r.ok = true ∧ bs.take 19 = encodeGeneral r)

/-! ### Commands at the ports -/

/-- In ACTIVE and PASSIVE a receive error raises REC by one, holding at 255, and a failed attempt of the
frame in the transmitter raises TEC by eight; the port is then ACTIVE with both counts below 128 and PASSIVE
otherwise. Nothing else changes, but that a move brings a look of the context arbiter, which is the model's
reading of R77 (R120, R121, R95; notes/assumptions/5.md). -/
def Obligations.ErrorCountsFollowEvents : Prop :=
  ∀ (p : Port) (s : State), s.readyToSleep = false → (s.port p).state.serves = true →
    let u := s.port p
    let settle := fun v : PortUnit => s.modPort p fun _ =>
      { v with state := if v.txErrors < 128 ∧ v.rxErrors < 128 then .active else .passive }
    (∃ t, exec (.receiveError p) s = .next t ∧
      (settle { u with rxErrors := min 255 (u.rxErrors + 1) }).YieldOnly t) ∧
    (u.tx ≠ none → u.txErrors + 8 < 256 →
      ∃ t, exec (.transmissionFailed p) s = .next t ∧
        (settle { u with txErrors := u.txErrors + 8 }).YieldOnly t)

/-- A failed attempt that brings TEC to 256 or more takes the port to BUS_OFF: transmitter and queues are
emptied, forwarded frames are counted as drops, the bus-off count rises, a waiting answer for the port is
dropped, a stream to it pauses, and the dialogues of its stations end PORT_LOST with their resume point when N
is known; the store, the snapshots, the clock and the other ports are untouched (R99, R120, R122). That the
retention unit's check of R172 comes before a grant that the closes make possible is the model's choice
(notes/assumptions/23.md). -/
def Obligations.BusOffTakesThePortDown : Prop :=
  ∀ (p : Port) (s : State), s.Inv → s.management.pendingCommit = none →
    (s.port p).state.serves = true → (s.port p).tx ≠ none → 256 ≤ (s.port p).txErrors + 8 →
    let u := s.port p
    let inTx := match u.tx with
      | some (.forwarded _) => 1
      | some (.query _) => 0
      | some (.management _) => 0
      | none => 0
    ∃ t, exec (.transmissionFailed p) s = .next (checkSleep t) ∧
      t.port p = { u with
        state := .busOff, txErrors := u.txErrors + 8, tx := none, forward := [], harvest := [],
        output := [], drops := min 65535 (u.drops + (inTx + u.forward.length)),
        busOffs := min 65535 (u.busOffs + 1) } ∧
      (∀ q, q ≠ p → t.port q = s.port q) ∧
      (∀ c d, s.context c = some d → s.dialoguePort d = p →
        t.context c = none ∧ t.station d.station = { s.station d.station with
          run := .idle, urgent := false, lastOutcome := some .portLost,
          resume := match d.n with
            | some n => some { next := d.expected, n := n }
            | none => (s.station d.station).resume }) ∧
      (∀ c, s.boundTo p c = false → t.context c = s.context c ∨
        t.context c = (s.context c).map fun d => { d with yieldPending := true }) ∧
      t.management.slot = (match s.management.slot with
        | .waitingOutput q held => if q = p then .empty else .waitingOutput q held
        | .serving q data => .serving q data
        | .empty => .empty) ∧
      t.streamer = (if s.streamer.state = .streaming ∧ s.streamer.port = p then
        { s.streamer with state := .paused } else s.streamer) ∧
      t.store = s.store ∧ t.snapshots = s.snapshots ∧ t.clock = s.clock ∧ t.tables = s.tables ∧
      t.notice = s.notice ∧ (∀ q, t.due q = s.due q)

/-- A frame reported sent leaves the transmitter empty and lowers TEC by one, not below 0; a query's sent
event takes its context, still in SENDING for the same grant, to AWAIT_HEADER with its wait timer started at
the station's wait time. Nothing else changes, but what a move to ACTIVE brings (R81, R120, R121, R141). -/
def Obligations.SentFrameLeavesTransmitter : Prop :=
  ∀ (p : Port) (s : State) (x : TxFrame), (s.port p).state.serves = true → (s.port p).tx = some x →
    let u := { s.port p with tx := none, txErrors := (s.port p).txErrors - 1 }
    let freed := s.modPort p fun _ =>
      { u with state := if u.txErrors < 128 ∧ u.rxErrors < 128 then .active else .passive }
    let told := match x with
      | .query q => freed.modDialogue q.context fun (d : Dialogue) =>
          if d.phase = Phase.sending ∧ d.grantTag = q.grantTag then
            { d with phase := .awaitHeader, waitTimer := some (s.stationRow d.station).waitTime }
          else d
      | .forwarded _ => freed
      | .management _ => freed
    ∃ t, exec (.transmissionSent p) s = .next t ∧ told.YieldOnly t

/-- Lost arbitration changes nothing: the frame stays and no count changes. Outside ACTIVE and PASSIVE a
receive error, a sent and a failed transmission change nothing, nor do the last two with an empty
transmitter. The guard timer's expiry, in ACTIVE and PASSIVE, and the notice interval's expiry leave their
timer elapsed and change nothing else (R117, R120, R121, R140, R171). That a report without a frame in the
transmitter, or outside ACTIVE and PASSIVE, changes nothing is the model's reading (notes/assumptions/16.md);
that the two expiries act whenever they are sent (4.md), and that an ARRIVAL whose operand is no CAN frame is
refused (9.md), are its choices. -/
def Obligations.QuietPortEvents : Prop :=
  ∀ (p : Port) (s : State), s.readyToSleep = false →
    exec (.lostArbitration p) s = .next s ∧
    ((s.port p).state.serves = false → exec (.receiveError p) s = .next s) ∧
    ((s.port p).state.serves = false ∨ (s.port p).tx = none →
      exec (.transmissionSent p) s = .next s ∧ exec (.transmissionFailed p) s = .next s) ∧
    ((s.port p).state.serves = true →
      exec (.guardTimerExpiry p) s = .next (s.modPort p fun u => { u with guardTimer := none })) ∧
    ((s.port p).state.serves = false → exec (.guardTimerExpiry p) s = .next s) ∧
    exec .noticeIntervalExpiry s = .next { s with notice := { s.notice with timer := none } } ∧
    ∀ f : Frame, f.wf = false → exec (.arrival p f) s = .refused .notACanFrame

/-- A port in JOINING enters LISTEN, ACTIVE or PASSIVE at a bus-idle event, by its listen-only flag, TEC and
REC, and a stream paused on it resumes with ACTIVE or PASSIVE; in any other state the event is ignored
(R118, R168). A BUS_OFF port rejoins at a recovery event when its auto-recover flag is set (R123). -/
def Obligations.PortsRejoin : Prop :=
  ∀ (p : Port) (s : State), let u := s.port p
    (u.state = .joining → (s.portRow p).listenOnly = true →
      exec (.busIdle p) s = .next (s.modPort p fun v => { v with state := .listen })) ∧
    (u.state = .joining → (s.portRow p).listenOnly = false →
      let joined := s.modPort p fun v =>
        { v with state := if v.txErrors < 128 ∧ v.rxErrors < 128 then .active else .passive }
      let resumed := if s.streamer.state = .paused ∧ s.streamer.port = p then
          { joined with streamer := { s.streamer with state := .streaming } } else joined
      ∃ t, exec (.busIdle p) s = .next t ∧ resumed.YieldOnly t) ∧
    (u.state ≠ .joining → exec (.busIdle p) s = .next s) ∧
    (u.state = .busOff → (s.portRow p).autoRecover = true →
      exec (.recoveryEvent p) s =
        .next (s.modPort p fun v => { v with state := .joining, txErrors := 0, rxErrors := 0 })) ∧
    (u.state ≠ .busOff ∨ (s.portRow p).autoRecover = false → exec (.recoveryEvent p) s = .next s)

/-- A choice of the transmit arbiter: in ACTIVE or PASSIVE with an empty transmitter, the forward queue's
head when its depth is at the almost-full level; otherwise the head of the first ready source in the cycle
after the last-served one; a harvest frame starts the guard timer. Without these conditions, or with no
source ready, the command changes nothing, the model's choice (R138, R139, R140; notes/assumptions/5.md). -/
def Obligations.TransmitChoiceRoundRobin : Prop :=
  ∀ (p : Port) (s : State), let u := s.port p
    let row := s.portRow p
    let after : List TxSource := match u.lastServed with
      | .forward => [.harvest, .management, .forward]
      | .harvest => [.management, .forward, .harvest]
      | .management => [.forward, .harvest, .management]
    let level := row.almostFull ≤ u.forward.length ∧ u.forward ≠ []
    (u.state.serves = true → u.tx = none →
      (∀ f rest, u.forward = f :: rest →
        (level ∨ ∃ before behind, after = before ++ .forward :: behind ∧
          ∀ x ∈ before, u.ready x = false) →
        exec (.transmitChoice p) s = .next (s.modPort p fun v =>
          { v with tx := some (.forwarded f), forward := rest, lastServed := .forward })) ∧
      (∀ q rest, ¬ level → u.harvest = q :: rest → u.guardTimer = none →
        (∃ before behind, after = before ++ .harvest :: behind ∧ ∀ x ∈ before, u.ready x = false) →
        exec (.transmitChoice p) s = .next (s.modPort p fun v =>
          { v with
            tx := some (.query q), harvest := rest, lastServed := .harvest,
            guardTimer := if row.guardInterval = 0 then none else some row.guardInterval })) ∧
      (∀ f rest, ¬ level → u.output = f :: rest →
        (∃ before behind, after = before ++ .management :: behind ∧ ∀ x ∈ before, u.ready x = false) →
        exec (.transmitChoice p) s = .next (s.modPort p fun v =>
          { v with tx := some (.management f), output := rest, lastServed := .management })) ∧
      (u.forward = [] → (u.harvest = [] ∨ u.guardTimer ≠ none) → u.output = [] →
        exec (.transmitChoice p) s = .next s)) ∧
    (u.state.serves = false ∨ u.tx ≠ none → exec (.transmitChoice p) s = .next s)

/-! ### Arrivals -/

/-- What an arrival does outside its class: a save is abandoned, the sleep-delay timer restarts while the key
state is OFF, and REC falls by one, not below 0, in ACTIVE and PASSIVE, with the move of the port state it
brings (R120, R129, R172, R174). A frame is offered to the forward queue of every port of its route set but
its ingress port: it joins the tail while the queue holds fewer than 24, is dropped and counted at 24, and is
neither queued nor counted at a port outside ACTIVE and PASSIVE; nothing else changes (R129, R133). -/
def Obligations.ArrivalEffectsAtThePorts : Prop :=
  (∀ (p : Port) (s : State),
    arrivalSeen s = { s with retention := { s.retention with
      power := if s.retention.power = .saving then .run else s.retention.power
      sleepTimer := if s.retention.power = .saving ∨ s.clock.key = .off then
          .running (1000 * s.general.sleepDelay) else s.retention.sleepTimer } } ∧
    ((s.port p).state.serves = false → arrivalLowersRec s p = s) ∧
    ((s.port p).state.serves = true →
      let u := { s.port p with rxErrors := (s.port p).rxErrors - 1 }
      (s.modPort p fun _ => { u with
        state := if u.txErrors < 128 ∧ u.rxErrors < 128 then .active else .passive }).YieldOnly
          (arrivalLowersRec s p))) ∧
  ∀ (s : State) (p : Port) (f : Frame) (route : PortSet),
    let t := forwardFrame s p f route
    t = { s with ports := t.ports } ∧
    ∀ q, t.port q =
      if q ≠ p ∧ route.get q = true ∧ (s.port q).state.serves = true then
        if (s.port q).forward.length < 24 then
          { s.port q with forward := (s.port q).forward ++ [f] }
        else { s.port q with drops := min 65535 ((s.port q).drops + 1) }
      else s.port q

/-- A row matches an arrival when it is enabled, holds the ingress port in its set and agrees with the
identifier in format and in the bits its mask keeps. An arrival at a port that accepts frames is classified by
the matching row with the lowest number, forwarded by that row's route set unless the class is MANAGE, handed
on, and entered in the ring with the time tag of its arrival when the row's SNAP flag is set; with no matching
row it is forwarded by the default route set of its ingress port only. At any other port nothing happens
(R128, R129, R130, R131). That the frame is forwarded before its class acts on it, and that it enters the
ring after that, in the order the free value of R149 gives to triggers of the same arrival, is the model's
reading (notes/assumptions/11.md and 7.md). -/
def Obligations.ArrivalIsClassifiedAndHandedOn : Prop :=
  ∀ (p : Port) (f : Frame) (s : State),
    let seen := arrivalLowersRec (arrivalSeen s) p
    let applies := fun n : Fin 96 =>
      let row := s.tables.ident.get n
      row.enable && row.ingress.get p && match row.pattern, f.id with
        | .standard v m, .standard x => decide (x &&& m = v &&& m)
        | .extended v m, .extended x => decide (x &&& m = v &&& m)
        | .standard _ _, .extended _ => false
        | .extended _ _, .standard _ => false
    (f.wf = true → (s.port p).state.accepts = true →
      (∀ n : Fin 96, applies n = true → (∀ m : Fin 96, m < n → applies m = false) →
        let row := s.tables.ident.get n
        let sent := if row.cls = .manage then seen else forwardFrame seen p f row.route
        let taken := handOn sent p f row
        exec (.arrival p f) s = .next (if row.snap then
          ringStep taken sent.snapshots.triggers.length p
            { frame := f, c := s.clock.c, ms := s.clock.ms } else taken)) ∧
      ((∀ n : Fin 96, applies n = false) →
        exec (.arrival p f) s = .next (forwardFrame seen p f (s.portRow p).defaultRoute))) ∧
    (f.wf = true → (s.port p).state.accepts = false → exec (.arrival p f) s = .next s)

/-- An ANNOUNCE frame is one merge of what the decoder reads from it, or one malformed frame; a REPLY frame
is a stray when its station is not ENGAGED or its port is not the station's home port, else malformed when it
cannot be read, else a stray when the context's state does not take its kind; a count changes nothing but
itself (R82, R83, R112, R114, R126). What the decoder reads: a field is the number its bytes spell in the
descriptor's byte order; with a kind position the byte there makes a reply a header or a record, and an
announcement must be of the record kind; a frame that does not reach every byte its kind needs, or whose masked
status is none of the three values, cannot be read; severity is the byte at its position, at most 7, or the
station's default; a count comes with modulus and guard (R105, R107 to R112, R115). The context that takes a
reply is the one bound to its station, which every ENGAGED station has and no other station (R58, R82). -/
def Obligations.ReportsAreMergedOrCounted : Prop :=
  (∀ (d : Descriptor) (sev : Nat) (data : List Byte),
    let byteOf := fun i : Nat => data.getD i 0
    let number := fun f : Field => (List.range f.width).foldl (fun (acc : Nat) i => acc * 256 +
      (byteOf (match d.byteOrder with
        | .mostSignificantFirst => f.pos + i
        | .leastSignificantFirst => f.pos + (f.width - 1 - i))).toNat) 0
    let reached := fun f : Field => f.pos + f.width ≤ data.length
    let long := reached d.codeField ∧ d.statusPos < data.length ∧
      (d.countField.width = 0 ∨ reached d.countField) ∧
      d.severityPos.all (fun p => decide (p < data.length)) = true
    let status := byteOf d.statusPos &&& d.statusMask
    let state : Option ReportedState :=
      if status = d.activeValue then some .active
      else if status = d.pendingValue then some .pending
      else if status = d.storedValue then some .stored else none
    let report : Option FaultReport := if long then state.map fun st =>
        { code := number d.codeField, state := st
          severity := match d.severityPos with
            | none => sev
            | some p => min 7 (byteOf p).toNat
          count := if d.countField.width = 0 then none
            else some { r := number d.countField, m := 256 ^ d.countField.width, g := d.guardG } }
      else none
    let record : Option Reply :=
      if reached d.indexField then report.map (.record (number d.indexField)) else none
    readReport d sev data = report ∧
    (d.kindPos = none → readReply d sev data = record ∧ readAnnouncement d sev data = report) ∧
    ∀ k, d.kindPos = some k →
      (readReply d sev data =
        if data.length ≤ k then none
        else if byteOf k = d.headerKind then
          if reached d.nField then some (.header (number d.nField)) else none
        else if byteOf k = d.recordKind then record else none) ∧
      readAnnouncement d sev data = if k < data.length ∧ byteOf k = d.recordKind then report else none) ∧
  (∀ s : State, s.Inv → ∀ st : StationNo,
    ((s.station st).run = .engaged →
      ∃ c d, s.contextOf st = some c ∧ s.context c = some d ∧ d.station = st) ∧
    ((s.station st).run ≠ .engaged → s.contextOf st = none) ∧
    ∀ c d, s.context c = some d → d.station = st → s.contextOf st = some c) ∧
  ∀ (s : State) (p : Port) (f : Frame) (row : IdentRow), f.remote = false →
    let d := s.format row.descriptor
    let sev := (s.stationRow row.station).defaultSeverity
    let malformed := s.modPort p fun u => { u with malformed := min 65535 (u.malformed + 1) }
    let stray := s.modPort p fun u => { u with strays := min 65535 (u.strays + 1) }
    (row.cls = .announce →
      handOn s p f row = match readAnnouncement d sev f.data with
        | some r => takeMerge s (r.merge row.station .announce)
        | none => malformed) ∧
    (row.cls = .reply →
      ((s.station row.station).run ≠ .engaged ∨ (s.stationRow row.station).homePort ≠ p →
        handOn s p f row = stray) ∧
      ((s.station row.station).run = .engaged → (s.stationRow row.station).homePort = p →
        (readReply d sev f.data = none → handOn s p f row = malformed) ∧
        (∀ c dl, s.contextOf row.station = some c → s.context c = some dl →
          (∀ n, readReply d sev f.data = some (.header n) →
            handOn s p f row = if dl.phase = .awaitHeader then takeHeader s c dl n else stray) ∧
          (∀ i r, readReply d sev f.data = some (.record i r) →
            handOn s p f row = if dl.phase = .receiving then takeRecord s c dl i r else stray))))

/-- A KEY frame read through its descriptor gives a reading, ON when the masked value equals the on-value,
and restarts the key-loss timer, under the key source KEY frames; a TIME frame's value divided by the time
divisor raises C, releases or sets the hold, under the clock source VEHICLE; a frame too short is malformed
(R41, R42, R44, R45, R49, R50, R113). -/
def Obligations.KeyAndTimeFrames : Prop :=
  ∀ (s : State) (p : Port) (f : Frame) (row : IdentRow), f.remote = false →
    let d := s.format row.descriptor
    let malformed := s.modPort p fun u => { u with malformed := min 65535 (u.malformed + 1) }
    let raw := ofBigEndian (fieldIn d.byteOrder d.valueField f.data)
    let short := f.data.length < d.valueField.pos + d.valueField.width
    (row.cls = .key ∨ row.cls = .time → short → handOn s p f row = malformed) ∧
    (row.cls = .key → ¬ short →
      handOn s p f row = match s.general.keySource with
        | .noSource => s
        | .keyFrames =>
          let on := decide (BitVec.ofNat 32 raw &&& d.keyMask = d.keyOn)
          let t := if s.clock.key = .off ∧ on = true then keyOnEvent s
            else if s.clock.key = .on ∧ on = false then keyOffEvent s else s
          { t with clock := { t.clock with keyLoss := some (1000 * t.general.keyLossTime) } }) ∧
    (row.cls = .time → ¬ short →
      handOn s p f row = match s.general.clockSource with
        | .internal => s
        | .vehicle =>
          let v := raw / d.divisor
          if s.clock.c < v then
            { s with clock := { s.clock with c := v, ms := 0, hold := false, holdTimer := none } }
          else if s.clock.c = v then
            { s with clock := { s.clock with hold := false, holdTimer := none } }
          else if s.clock.hold then s
          else { s with clock := { s.clock with hold := true, holdTimer := some 60000 } })

/-- A MANAGE data frame is taken as a request on a port with management enabled in ACTIVE or PASSIVE: into an
EMPTY slot, else answered BUSY in a free place of its port's queue, else counted as an overrun; elsewhere it
is discarded. PASS frames and remote frames are handed to nobody (R130, R153, R155, R156). That a request
without data is answered BUSY with the code 0x00 is the model's reading (notes/assumptions/10.md). -/
def Obligations.RequestsReachTheSlot : Prop :=
  ∀ (s : State) (p : Port) (f : Frame) (row : IdentRow),
    (f.remote = true ∨ row.cls = .pass → handOn s p f row = s) ∧
    (f.remote = false → row.cls = .manage →
      ((s.portRow p).managementEnable = false ∨ (s.port p).state.serves = false →
        handOn s p f row = s) ∧
      ((s.portRow p).managementEnable = true → (s.port p).state.serves = true →
        (s.management.slot = .empty →
          handOn s p f row = { s with management := { s.management with slot := .serving p f.data } }) ∧
        (s.management.slot ≠ .empty → (s.port p).output.length < 8 →
          handOn s p f row = s.modPort p fun u => { u with
            output := u.output ++
              [dataFrame s.general.responseId [f.data.headD 0, 1, 0, 0, 0, 0, 0, 0]] }) ∧
        (s.management.slot ≠ .empty → 8 ≤ (s.port p).output.length →
          handOn s p f row = { s with management := { s.management with
            overruns := min 255 (s.management.overruns + 1) } })))

/-- A SNAP-flagged arrival enters its port's ring as the newest of at most 12 frames and joins the post
frames of every FILLING slot of that port, which is COMPLETE once they number its target; the capture that
the arrival's own merge has triggered is taken before the ring entry or left for after it (R131, R143, R147,
R149). -/
def Obligations.RingAndPostFrames : Prop :=
  (∀ (s : State) (p : Port) (x : RingFrame),
    let t := enterRing s p x
    t = { s with snapshots := t.snapshots } ∧ t.snapshots.triggers = s.snapshots.triggers ∧
    t.ring p = (if (s.ring p).length < 12 then s.ring p ++ [x] else (s.ring p).drop 1 ++ [x]) ∧
    (∀ q, q ≠ p → t.ring q = s.ring q) ∧
    ∀ i, t.slot i =
      if (s.slot i).state = .filling ∧ (s.slot i).port = p then
        if (s.slot i).post.length + 1 < (s.slot i).target then
          { s.slot i with post := (s.slot i).post ++ [x] }
        else { s.slot i with post := (s.slot i).post ++ [x], state := .complete, timer := none }
      else s.slot i) ∧
  ∀ (s : State) (before : Nat) (p : Port) (x : RingFrame),
    (s.snapshots.triggers.length ≤ before → ringStep s before p x = enterRing s p x) ∧
    (before < s.snapshots.triggers.length → ∃ tr, s.snapshots.triggers.getLast? = some tr ∧
      (ringStep s before p x = enterRing s.choose p x ∨
        ringStep s before p x = enterRing (takeTrigger { s.choose with
          snapshots := { s.snapshots with triggers := s.snapshots.triggers.dropLast } } tr) p x))

/-! ### The history store -/

/-- A merge into an existing entry changes T by the rule that its count, the entry's L and the state before
the merge choose, and the other fields as the report says; the seen mark is set, and the changed flag when T
or the state has changed. No sequence number is used and no count of the store moves (R8, R25 to R37). -/
def Obligations.MergeUpdatesTheEntry : Prop :=
  ∀ (s : State) (m : Merge) (e : Entry), s.store.Ok → e ∈ s.store.entries →
    e.station = m.station → e.code = m.code →
    let edge := m.state = .active ∧ e.state ≠ .active
    let total := match m.count, e.last with
      | some rep, some held =>
        let l := if held.m ≠ rep.m ∧ rep.m ≤ held.l then held.l % rep.m else held.l
        let d := if l ≤ rep.r then rep.r - l else rep.r + rep.m - l
        if d = 0 then e.total
        else if d ≤ rep.g then min 65535 (e.total + d) else min 65535 (e.total + rep.r)
      | some rep, none => max e.total rep.r
      | none, none => if edge then min 65535 (e.total + 1) else e.total
      | none, some _ => e.total
    let state : EntryState := match m.state with
      | .active => .active
      | .pending => .pending
      | .stored => .stored
    let now : Stamp := { c := s.clock.c, k := s.clock.k }
    let updated : Entry := { e with
      total := total
      last := match m.count with
        | some rep => some { l := rep.r, m := rep.m, g := rep.g }
        | none => e.last
      state := state
      lastReport := s.clock.c
      firstActive := if m.state = .active ∧ e.firstActive = none then some now else e.firstActive
      lastActive := if m.state = .active then some now else e.lastActive
      peak := max e.peak m.severity
      sources := { announce := e.sources.announce || decide (m.source = .announce)
                   readback := e.sources.readback || decide (m.source = .readback) }
      changed := e.changed || decide (total ≠ e.total) || decide (state ≠ e.state)
      seen := true }
    let stored := { s with store := { s.store with
      entries := s.store.entries.map fun x => if x.seq = e.seq then updated else x } }
    takeMerge s m = if edge then handOff stored e.seq m else stored

/-- A new key with room and next-sequence below its last value creates the entry the merge describes, T being
1 or the count, and hands the creation on; at the last value it is refused, whatever the room (R4, R9, R12,
R27, R31). -/
def Obligations.NewKeyCreatesEntry : Prop :=
  ∀ (s : State) (m : Merge), (∀ e ∈ s.store.entries, e.station ≠ m.station ∨ e.code ≠ m.code) →
    (s.store.nextSeq < 4294967295 → s.store.entries.length < 512 →
      let active : Option Stamp :=
        if m.state = .active then some { c := s.clock.c, k := s.clock.k } else none
      let entry : Entry :=
        { seq := s.store.nextSeq, station := m.station, code := m.code
          state := match m.state with
            | .active => .active
            | .pending => .pending
            | .stored => .stored
          peak := m.severity
          total := match m.count with
            | some rep => max 1 rep.r
            | none => 1
          last := m.count.map fun rep => { l := rep.r, m := rep.m, g := rep.g }
          firstReport := s.clock.c, lastReport := s.clock.c
          firstActive := active, lastActive := active
          sources := { announce := decide (m.source = .announce)
                       readback := decide (m.source = .readback) }
          seen := true, changed := true, slot := none, missed := false }
      takeMerge s m = handOff { s with
        store := { s.store with
          entries := s.store.entries ++ [entry], nextSeq := s.store.nextSeq + 1 }
        notice := { s.notice with
          count := min 255 (s.notice.count + 1), latest := some s.store.nextSeq } }
        s.store.nextSeq m) ∧
    (4294967295 ≤ s.store.nextSeq →
      takeMerge s m = { s with store := { s.store with
        refusals := min 65535 (s.store.refusals + 1) } })

/-- The victim is the entry that stands before every other in the order of rank, last report time and
sequence number, where rank is eight times the tier (3 ACTIVE, 2 PENDING, 1 STORED, 0 GONE) plus the peak
severity. Of two entries one stands before the other, and the model's comparison says which (R39). -/
def Obligations.VictimIsFirstInEvictionOrder : Prop :=
  ∀ es : List Entry, (es.map Entry.seq).Nodup →
    let rank := fun e : Entry => e.peak + match e.state with
      | .active => 24
      | .pending => 16
      | .stored => 8
      | .gone => 0
    let before := fun a b : Entry => rank a < rank b ∨ (rank a = rank b ∧
      (a.lastReport < b.lastReport ∨ (a.lastReport = b.lastReport ∧ a.seq < b.seq)))
    (∀ a ∈ es, ∀ b ∈ es, (a.evictedBefore b = true ↔ before a b) ∧
      (a ≠ b → (before a b ↔ ¬ before b a))) ∧
    (es = [] → victimOf es = none) ∧
    ∀ v ∈ es, (victimOf es = some v ↔ ∀ e ∈ es, e ≠ v → before v e)

/-- A new key in a full store is put to the admission test: a candidate whose rank is at least the victim's
evicts it, frees its slot, raises the eviction count and creates its entry with the store's size unchanged; a
candidate below it is refused, which changes the refusal count and nothing else. The creation raises the
pending count of the notice unit and is handed on as any creation; a stream of the freed slot learns that it
is gone, and nothing else changes (R9 to R13, R27, R31, R40, R67, R150, R169, R170). The freed slot's port 0
is the model's choice (notes/assumptions/19.md). -/
def Obligations.FullStoreAdmitsOrRefuses : Prop :=
  ∀ (s : State) (m : Merge) (v : Entry), s.Inv →
    (∀ e ∈ s.store.entries, e.station ≠ m.station ∨ e.code ≠ m.code) →
    s.store.nextSeq < 4294967295 → s.store.entries.length = 512 → victimOf s.store.entries = some v →
    let candidate := m.severity + match m.state with
      | .active => 24
      | .pending => 16
      | .stored => 8
    (candidate < v.rank →
      takeMerge s m = { s with store := { s.store with
        refusals := min 65535 (s.store.refusals + 1) } }) ∧
    (v.rank ≤ candidate →
      let active : Option Stamp :=
        if m.state = .active then some { c := s.clock.c, k := s.clock.k } else none
      let entry : Entry :=
        { seq := s.store.nextSeq, station := m.station, code := m.code
          state := match m.state with
            | .active => .active
            | .pending => .pending
            | .stored => .stored
          peak := m.severity
          total := match m.count with
            | some rep => max 1 rep.r
            | none => 1
          last := m.count.map fun rep => { l := rep.r, m := rep.m, g := rep.g }
          firstReport := s.clock.c, lastReport := s.clock.c
          firstActive := active, lastActive := active
          sources := { announce := decide (m.source = .announce)
                       readback := decide (m.source = .readback) }
          seen := true, changed := true, slot := none, missed := false }
      let freed : State := match v.slot with
        | some i => { s.modSlot i fun _ => Slot.freed with
            streamer := { s.streamer with
              slotLost := s.streamer.slotLost || decide (s.streamer.state ≠ .idle ∧
                s.streamer.kind = .snapshot ∧ s.streamer.slot = i) } }
        | none => s
      let t := takeMerge s m
      t = handOff { freed with
        store := { s.store with
          entries := s.store.entries.filter (fun e => e.seq ≠ v.seq) ++ [entry]
          nextSeq := s.store.nextSeq + 1, evictions := min 65535 (s.store.evictions + 1) }
        notice := { s.notice with
          count := min 255 (s.notice.count + 1), latest := some s.store.nextSeq } }
        s.store.nextSeq m ∧
      t.store = { s.store with
        entries := s.store.entries.filter (fun e => e.seq ≠ v.seq) ++ [entry]
        nextSeq := s.store.nextSeq + 1, evictions := min 65535 (s.store.evictions + 1) } ∧
      t.store.entries.length = 512 ∧
      (∀ i, v.slot = some i → t.slot i = Slot.freed) ∧
      (∀ i, v.slot ≠ some i → t.slot i = s.slot i) ∧
      t.snapshots.triggers = s.snapshots.triggers ++
        [{ seq := s.store.nextSeq, station := m.station }] ∧
      t.notice.latest = some s.store.nextSeq ∧ t.clock = s.clock ∧ t.ports = s.ports ∧
      t.tables = s.tables ∧ t.management = s.management)

/-- What the store hands on (R13): a capture trigger to the snapshot unit, and for an announcement an urgency
request, on which the survey acts when the station's row is enabled, its announce flag is set and the key
state is ON: an IDLE station joins the urgent group, a DUE one of the normal group moves there, any other
stays (R67). -/
def Obligations.HandOffTriggersAndUrgency : Prop :=
  ∀ (s : State) (seq : Nat) (m : Merge), s.Inv →
    let st := m.station
    let row := s.stationRow st
    let q := s.due row.homePort
    let t := handOff s seq m
    t = { s with snapshots := t.snapshots, survey := t.survey, engine := t.engine } ∧
    t.snapshots = { s.snapshots with
      triggers := s.snapshots.triggers ++ [{ seq := seq, station := st }] } ∧
    (m.source = .readback ∨ row.enable = false ∨ row.announceTriggers = false ∨ s.clock.key = .off ∨
      (s.station st).run = .engaged ∨ (s.station st).urgent = true →
        t.survey = s.survey ∧ t.engine = s.engine) ∧
    (m.source = .announce → row.enable = true → row.announceTriggers = true → s.clock.key = .on →
      (s.station st).run ≠ .engaged → (s.station st).urgent = false →
      t.station st = { s.station st with run := .due, urgent := true } ∧
      t.due row.homePort = { urgent := q.urgent ++ [st], normal := q.normal.filter (fun x => x ≠ st) } ∧
      (∀ x, x ≠ st → t.station x = s.station x) ∧
      (∀ p, p ≠ row.homePort → t.due p = s.due p) ∧
      ∀ c, t.context c = s.context c ∨
        t.context c = (s.context c).map fun d => { d with yieldPending := true })

/-! ### Dialogues -/

/-- A look finds a grant exactly when a context is FREE and some eligible port, one in ACTIVE or PASSIVE with
fewer than two contexts bound to its stations, has a station in its due queue. It finds the head of the first
eligible port in scan order, urgent heads first, and a grant binds the lowest FREE context to it: the station
leaves the queue and is ENGAGED, the dialogue starts at its resume point or at 0 with full retries, and its
first query joins the harvest output. With nothing to grant, GRANT changes nothing (R76, R77, R78, R80, R96,
R174). The window end before the first header (notes/assumptions/19.md), the tag of the grant (18.md) and that
GRANT changes nothing with nothing to grant (5.md) are the model's choices. -/
def Obligations.GrantBindsTheHead : Prop :=
  ∀ s : State, s.Inv →
    (∀ p, (s.contextsOf p).Nodup ∧
      ∀ c, c ∈ s.contextsOf p ↔ ∃ d, s.context c = some d ∧ (s.stationRow d.station).homePort = p) ∧
    (∀ p, s.eligible p = true ↔ (s.port p).state.serves = true ∧ (s.contextsOf p).length < 2) ∧
    (s.nextGrant = none ↔ (∀ c, s.context c ≠ none) ∨
      ∀ p, s.eligible p = true → (s.due p).urgent = [] ∧ (s.due p).normal = []) ∧
    (s.nextGrant = none → exec .grant s = .next s) ∧
    ∀ g, s.nextGrant = some g →
      let x := s.station g.station
      let row := s.stationRow g.station
      let d : Dialogue :=
        { phase := .sending, station := g.station
          origin := if x.resume = none then .fromZero else .resumed
          resumeN := x.resume.map (·.n), n := none, expected := (x.resume.map (·.next)).getD 0
          windowEnd := 0, retries := row.retryLimit, run := 0, waitTimer := none
          yieldPending := false, urgentStart := g.urgent, grantTag := s.engine.grants }
      let query := buildQuery row (s.format row.descriptor) d.expected
      ∃ t, exec .grant s = .next t ∧
        s.context g.context = none ∧ (∀ c, c < g.context → s.context c ≠ none) ∧
        (s.port g.port).state.serves = true ∧ (s.contextsOf g.port).length < 2 ∧
        (s.due g.port).head = some (g.station, g.urgent) ∧
        (g.urgent = false → ∀ p, s.eligible p = true → (s.due p).urgent = []) ∧
        (∀ before behind, s.scanOrder = before ++ g.port :: behind → ∀ p ∈ before,
          s.eligible p = true → (s.due p).urgent = [] ∧ (g.urgent = false → (s.due p).normal = [])) ∧
        t.engine.lastGranted = g.port ∧
        t.context g.context = some d ∧
        (∀ c, c ≠ g.context → t.context c = s.context c ∨
          t.context c = (s.context c).map fun y => { y with yieldPending := true }) ∧
        t.station g.station = { x with run := .engaged, urgent := false } ∧
        (∀ st, st ≠ g.station → t.station st = s.station st) ∧
        t.due g.port = (s.due g.port).removeHead ∧ (∀ p, p ≠ g.port → t.due p = s.due p) ∧
        t.port g.port = { s.port g.port with
          harvest := (s.port g.port).harvest ++
            [{ frame := query, context := g.context, grantTag := s.engine.grants }] } ∧
        (∀ p, p ≠ g.port → t.port p = s.port p) ∧
        t.store = s.store ∧ t.snapshots = s.snapshots ∧ t.clock = s.clock ∧ t.tables = s.tables ∧
        t.management = s.management ∧
        t.retention.power = (if s.retention.power = .saving then .run else s.retention.power)

/-- A query is the template with the start index and then the window count written over it, most or least
significant byte first, cut at the template length; bytes beyond it are not sent (R80). -/
def Obligations.QueryIsBuiltFromTheTemplate : Prop :=
  ∀ (row : StationRow) (fmt : Descriptor) (start : Nat), fmt.ok = true → row.ok 65536 = true →
    let f := buildQuery row fmt start
    let p := fmt.queryStart.pos
    f.id = row.queryId ∧ f.remote = false ∧ f.dlc = row.templateLength ∧ f.wf = true ∧
    ∀ i, i < row.templateLength →
      f.data.getD i 0 =
        if i = fmt.queryWindow then BitVec.ofNat 8 row.window
        else if i = p ∧ (fmt.queryStart.width = 1 ∨ fmt.byteOrder = .leastSignificantFirst) then
          BitVec.ofNat 8 (start % 256)
        else if i = p ∧ fmt.queryStart.width = 2 then BitVec.ofNat 8 (start / 256 % 256)
        else if i = p + 1 ∧ fmt.queryStart.width = 2 then
          (match fmt.byteOrder with
           | .mostSignificantFirst => BitVec.ofNat 8 (start % 256)
           | .leastSignificantFirst => BitVec.ofNat 8 (start / 256 % 256))
        else row.template.toList.getD i 0

/-- A header in AWAIT_HEADER: the first of a pass from zero clears the seen marks and is accepted; the first
of a resumed pass is accepted when its N is the resume N, and restarts the pass from index 0 with the marks
cleared otherwise; a later one closes SHORT below the expected index and is accepted otherwise. An accepted
N not above the expected index closes COMPLETE, any other takes the context to RECEIVING (R84, R85, R86). -/
def Obligations.HeadersSettleThePass : Prop :=
  ∀ (s : State) (c : ContextNo) (d : Dialogue) (n : Nat), s.context c = some d →
    let row := s.stationRow d.station
    let fresh := d.n = none ∧ d.origin = .fromZero
    let restart := d.n = none ∧ d.origin = .resumed ∧ d.resumeN ≠ some n
    let shrunk := d.n ≠ none ∧ n < d.expected
    let cleared := { s with store := { s.store with entries := s.store.entries.map fun e =>
      if e.station = d.station then { e with seen := false } else e } }
    let base := if fresh ∨ restart then cleared else s
    let accepted := { d with n := some n, resumeN := none, waitTimer := some row.waitTime }
    (shrunk → takeHeader s c d n = closeDialogue s c .short) ∧
    (restart → takeHeader s c d n = sendQuery (base.setContext c (some
      { d with n := some n, expected := 0, origin := .fromZero, resumeN := none })) c) ∧
    (¬ shrunk → ¬ restart → n ≤ d.expected →
      takeHeader s c d n = closeDialogue (base.setContext c (some accepted)) c .complete) ∧
    (¬ shrunk → ¬ restart → d.expected < n →
      takeHeader s c d n = base.setContext c (some
        { accepted with phase := .receiving, windowEnd := min (d.expected + row.window) n }))

/-- A record below the expected index is ignored and one above it is a retry point; at the expected index it
is merged, expected index and run rise, the wait timer restarts, and the max run check of the context and then
the preemption check are made; the dialogue then closes COMPLETE at N, and at the window's end has its retries
back and closes SUSPENDED or sends a continue query (R87, R88, R89, R94, R95). That the checks stand between
the rise of run and the tests of the end of list and window is the model's reading (notes/assumptions/5.md), as
is that R88 holds for an index that its field cannot hold (22.md). -/
def Obligations.RecordsAdvanceTheDialogue : Prop :=
  ∀ (s : State) (c : ContextNo) (d : Dialogue) (i : Nat) (r : FaultReport), s.Inv →
    s.context c = some d → d.phase = .receiving →
    let row := s.stationRow d.station
    (i < d.expected → takeRecord s c d i r = s) ∧
    (d.expected < i → takeRecord s c d i r = retryPoint s c) ∧
    (i = d.expected →
      let advanced := (takeMerge s (r.merge d.station .readback)).modDialogue c fun x => { x with
          expected := x.expected + 1, run := min 65535 (x.run + 1), waitTimer := some row.waitTime }
      let t := preemptionCheck (maxRunCheck advanced c)
      advanced.YieldOnly t ∧
      ∃ e, t.context c = some e ∧ e.expected = d.expected + 1 ∧ e.n = d.n ∧
        e.run = min 65535 (d.run + 1) ∧ e.windowEnd = d.windowEnd ∧
        (d.n = some (d.expected + 1) → takeRecord s c d i r = closeDialogue t c .complete) ∧
        (d.n ≠ some (d.expected + 1) → d.windowEnd = d.expected + 1 →
          let full := t.setContext c (some { e with retries := row.retryLimit })
          takeRecord s c d i r =
            if e.yieldPending then closeDialogue full c .suspended else sendQuery full c) ∧
        (d.n ≠ some (d.expected + 1) → d.windowEnd ≠ d.expected + 1 → takeRecord s c d i r = t))

/-- A wait timer's expiry in AWAIT_HEADER or RECEIVING is a retry point: with no retries left the dialogue
closes ABANDONED, else with yield-pending set SUSPENDED, else one retry is used and the query of the expected
index is sent again. In SENDING and FREE no expiry occurs (R90, R91). That the command acts whatever is left
of the interval is the model's choice (notes/assumptions/4.md), as is that the retention unit's check comes
before a grant that the close makes possible (23.md). -/
def Obligations.WaitTimerExpiryIsARetryPoint : Prop :=
  ∀ (c : ContextNo) (s : State),
    (s.context c = none → exec (.waitTimerExpiry c) s = .next s) ∧
    ∀ d, s.context c = some d →
      (d.phase = .sending ∨ d.waitTimer = none → exec (.waitTimerExpiry c) s = .next s) ∧
      (d.phase ≠ .sending → d.waitTimer ≠ none →
        (d.retries = 0 →
          exec (.waitTimerExpiry c) s = .next (checkSleep (closeDialogue s c .abandoned))) ∧
        (d.retries ≠ 0 → d.yieldPending = true →
          exec (.waitTimerExpiry c) s = .next (checkSleep (closeDialogue s c .suspended))) ∧
        (d.retries ≠ 0 → d.yieldPending = false →
          let row := s.stationRow d.station
          let e := { d with retries := d.retries - 1, phase := .sending, waitTimer := none }
          exec (.waitTimerExpiry c) s = .next ((s.setContext c (some e)).modPort row.homePort fun u =>
            { u with harvest := u.harvest ++
              [{ frame := buildQuery row (s.format row.descriptor) d.expected
                 context := c, grantTag := d.grantTag }] })))

/-- A close frees the context, withdraws its query, marks unseen entries of the station GONE when COMPLETE
and at no other outcome, and records the outcome with run-state, resume point, F and last complete time as
Table 4.4 gives; with the key ON a SUSPENDED station rejoins its queue. A close of a FREE context changes
nothing (R15, R60, R97, R100). -/
def Obligations.CloseRecordsTheOutcome : Prop :=
  ∀ (s : State) (c : ContextNo) (o : Closing), s.Inv →
    (s.context c = none → closeDialogue s c o = s) ∧
    ∀ d, s.context c = some d → s.management.pendingCommit = none →
      let st := d.station
      let x := s.station st
      let known : Option ResumePoint := match d.n with
        | some n => some { next := d.expected, n := n }
        | none => x.resume
      let back := o = .suspended ∧ s.clock.key = .on
      let t := closeDialogue s c o
      t.context c = none ∧
      (∀ c', c' ≠ c → t.context c' = s.context c' ∨
        t.context c' = (s.context c').map fun y => { y with yieldPending := true }) ∧
      t.station st = { x with
        lastOutcome := some o, urgent := false, run := if back then .due else .idle
        resume := match o with
          | .complete | .short | .abandoned => none
          | .suspended | .cut | .portLost => known
        failures := match o with
          | .complete | .short => 0
          | .abandoned => min 15 (x.failures + 1)
          | .suspended | .cut | .portLost => x.failures
        lastComplete := if o = .complete then some s.clock.c else x.lastComplete } ∧
      (∀ st', st' ≠ st → t.station st' = s.station st') ∧
      (∀ p, t.due p = if back ∧ p = s.dialoguePort d then
        { s.due p with normal := (s.due p).normal ++ [st] } else s.due p) ∧
      t.store = { s.store with entries := s.store.entries.map fun e =>
        if o = .complete ∧ e.station = st ∧ e.state ≠ .gone ∧ e.seen = false then
          { e with state := .gone, changed := true } else e } ∧
      (∀ p, t.port p = { s.port p with
        harvest := (s.port p).harvest.filter fun q => q.context ≠ c }) ∧
      t.tables = s.tables ∧ t.clock = s.clock ∧ t.snapshots = s.snapshots ∧ t.notice = s.notice ∧
      t.management = s.management ∧ t.streamer = s.streamer ∧ t.retention = s.retention

/-- A close applies a pending row that no longer waits, as an immediate commit would, and the pending commit
is then absent; a row that still waits stays. A STATION row clears resume point, F and lapped flag; a station
that its SUSPENDED close has put into its due queue keeps its place there when the row is enabled and names the
same home port, and otherwise leaves it and is IDLE (R57, R60, R104, R159). -/
def Obligations.CloseReleasesThePendingRow : Prop :=
  ∀ (s : State) (c : ContextNo) (o : Closing) (d : Dialogue), s.Inv → s.context c = some d →
    (∀ row, s.management.pendingCommit = some (.station d.station row) →
      let t := closeDialogue s c o
      let x := s.station d.station
      let stays := o = .suspended ∧ s.clock.key = .on ∧ row.enable = true ∧
        row.homePort = s.dialoguePort d
      t.context c = none ∧
      t.station d.station = { x with
        lastOutcome := some o, run := if stays then .due else .idle, urgent := false
        resume := none, failures := 0, lapped := false
        lastComplete := if o = .complete then some s.clock.c else x.lastComplete } ∧
      (∀ st, st ≠ d.station → t.station st = s.station st) ∧
      (∀ p, t.due p = if stays ∧ p = s.dialoguePort d then
        { s.due p with normal := (s.due p).normal ++ [d.station] } else s.due p) ∧
      t.tables = { s.tables with
        stations := s.tables.stations.set d.station.val row d.station.isLt } ∧
      t.management.pendingCommit = none ∧ t.stationRow d.station = row ∧
      (∀ st, st ≠ d.station → t.stationRow st = s.stationRow st) ∧
      (t.station d.station).resume = none ∧ (t.station d.station).failures = 0 ∧
      (t.station d.station).lapped = false ∧ (t.station d.station).lastOutcome = some o) ∧
    (∀ st row, st ≠ d.station → s.management.pendingCommit = some (.station st row) →
      (s.station st).run = .engaged →
      (closeDialogue s c o).management.pendingCommit = some (.station st row) ∧
        (closeDialogue s c o).tables = s.tables) ∧
    ∀ n row, s.management.pendingCommit = some (.format n row) →
      let others := ∃ c' d', c' ≠ c ∧ s.context c' = some d' ∧
        (s.stationRow d'.station).descriptor = n
      (others → (closeDialogue s c o).management.pendingCommit = some (.format n row) ∧
        (closeDialogue s c o).tables = s.tables) ∧
      (¬ others → (closeDialogue s c o).management.pendingCommit = none ∧
        (closeDialogue s c o).format n = row)

/-- The max run check sets a context's yield-pending flag exactly when max run is not 0, run is at least min
run plus max run and the due queue of its port is not empty; a station that joins a due queue brings it for
each context of that port (R94). The preemption check has a victim exactly when no context yields already and
some port in ACTIVE or PASSIVE holds an urgent station that cannot be served: of the first such port in scan
order, the eligible candidate with the largest run, the lowest-numbered of equals; it sets the victim's flag
and nothing else (R95). That a look makes the check once no grant is possible any more, be it because an event
has taken the grant away, is the model's reading (notes/assumptions/5.md). -/
def Obligations.PreemptionAsksTheLargestRun : Prop :=
  ∀ s : State,
    let asked := fun (t : State) (c : ContextNo) =>
      t.setContext c ((t.context c).map fun d => { d with yieldPending := true })
    let long := fun (c : ContextNo) => ∃ d, s.context c = some d ∧ s.general.maxRun ≠ 0 ∧
      s.general.minRun + s.general.maxRun ≤ d.run ∧
      ((s.due (s.dialoguePort d)).urgent ≠ [] ∨ (s.due (s.dialoguePort d)).normal ≠ [])
    let starving := fun (p : Port) => (s.port p).state.serves = true ∧ (s.due p).urgent ≠ [] ∧
      ((∀ c, s.context c ≠ none) ∨ 2 ≤ (s.contextsOf p).length)
    let mayYield := fun (p : Port) (c : ContextNo) (d : Dialogue) =>
      (2 ≤ (s.contextsOf p).length → s.boundTo p c = true) ∧ s.context c = some d ∧
        s.general.minRun ≤ d.run ∧ d.urgentStart = false ∧ d.yieldPending = false
    (∀ c, (long c → maxRunCheck s c = asked s c) ∧ (¬ long c → maxRunCheck s c = s)) ∧
    (∀ p, s.YieldOnly (maxRunChecks s p) ∧
      ∀ c, (s.boundTo p c = true → long c → (maxRunChecks s p).context c = (asked s c).context c) ∧
        (s.boundTo p c = false ∨ ¬ long c → (maxRunChecks s p).context c = s.context c)) ∧
    (∀ st, let home := (s.stationRow st).homePort
      (joinNormal s st = maxRunChecks ((s.modStation st fun x => { x with run := .due, urgent := false }).modDue
        home fun q => { q with normal := q.normal ++ [st] }) home) ∧
      joinUrgent s st = maxRunChecks ((s.modStation st fun x => { x with run := .due, urgent := true }).modDue
        home fun q => { q with urgent := q.urgent ++ [st] }) home) ∧
    s.scanOrder = [s.engine.lastGranted + 1, s.engine.lastGranted + 2, s.engine.lastGranted] ∧
    (∀ c, s.preemptionVictim = some c ↔
      (∀ c' d', s.context c' = some d' → d'.yieldPending = false) ∧
      ∃ p d, (∃ before behind, s.scanOrder = before ++ p :: behind ∧ ∀ q ∈ before, ¬ starving q) ∧
        starving p ∧ mayYield p c d ∧
        ∀ c' d', mayYield p c' d' → d'.run < d.run ∨ (d'.run = d.run ∧ c ≤ c')) ∧
    (∀ c, s.preemptionVictim = some c → preemptionCheck s = asked s c) ∧
    (s.preemptionVictim = none → preemptionCheck s = s) ∧
    lookCheck s = (if s.nextGrant = none then preemptionCheck s else s) ∧
    ∀ before : State, settleLook s before =
      if before.nextGrant ≠ none ∧ s.nextGrant = none then preemptionCheck s else s


/-! ### The clock, the survey and the snapshot unit -/

/-- An internal tick sets the millisecond counter to 0 and raises C by one while the hold flag is clear and C
is below its maximum; the hold timer's expiry clears the hold, and C does not jump. Nothing else changes
(R43, R46). That both commands act whenever they are sent, the expiry with the timer running, is the model's
choice (notes/assumptions/4.md). -/
def Obligations.TicksAndTheHold : Prop :=
  ∀ s : State,
    exec .internalTick s = .next { s with clock := { s.clock with
      ms := 0
      c := if s.clock.hold = false ∧ s.clock.c < 4294967295 then s.clock.c + 1 else s.clock.c } } ∧
    (s.clock.holdTimer ≠ none → exec .holdTimerExpiry s =
      .next { s with clock := { s.clock with hold := false, holdTimer := none } }) ∧
    (s.clock.holdTimer = none → exec .holdTimerExpiry s = .next s)

/-- A key-on event makes the key state ON, raises K, stops the grace and the sleep-delay timer, sets round
number and timer to 0 and starts a round of a PAUSED or DONE survey. A key-off event makes it OFF, pauses a
started survey, flushes the due queues and starts the grace (cutting the dialogues at once at 0 s) and the
sleep-delay timer. The key-loss timer's expiry is a key-off event while ON and stands stopped while OFF (R48,
R50, R52, R53, R70, R71, R72, R172). That a grace of 0 s cuts within the event, and that the expiry acts
whatever is left of its interval, are the model's (notes/assumptions/4.md). -/
def Obligations.KeyEvents : Prop :=
  (∀ s : State,
    let base := { s with
      clock := { s.clock with key := .on, k := min 65535 (s.clock.k + 1) }
      survey := { s.survey with grace := none, roundNumber := 0, roundTimer := 0 } }
    let t := if s.survey.state = .paused ∨ s.survey.state = .done then
        slotEvents { base with survey := { base.survey with
          state := .running, tick := some 100, endDue := false } }
      else base
    keyOnEvent s = { t with retention := { t.retention with sleepTimer := .stopped } }) ∧
  (∀ s : State,
    let started := s.survey.state = .running ∨ s.survey.state = .done
    let base := { s with
      clock := { s.clock with key := .off }
      survey := { s.survey with
        state := if started then .paused else s.survey.state
        tick := if started then none else s.survey.tick
        endDue := if started then false else s.survey.endDue
        due := Vector.replicate 3 { urgent := [], normal := [] }
        stations := mapAll (fun x => if x.run = .due then { x with run := .idle, urgent := false } else x)
          s.survey.stations
        grace := if s.general.keyOffGrace = 0 then none else some (1000 * s.general.keyOffGrace) } }
    let t := if s.general.keyOffGrace = 0 then cutAll base else base
    keyOffEvent s = { t with retention := { t.retention with
      sleepTimer := .running (1000 * t.general.sleepDelay) } }) ∧
  ∀ s : State,
    (s.clock.keyLoss = none → exec .keyLossTimerExpiry s = .next s) ∧
    (s.clock.keyLoss ≠ none →
      let t := { s with clock := { s.clock with keyLoss := none } }
      exec .keyLossTimerExpiry s = .next (if s.clock.key = .on then keyOffEvent t else t))

/-- A tick of a RUNNING survey raises the round timer: below the round length its value is a moment of slot
events, at or above it the round is to end. At the end a CONTINUOUS survey starts the next round, the round
number wrapping from 65,535 to 0, and a ONCE_PER_CYCLE survey becomes DONE; a tick that finds the end
outstanding ends the round first and then ticks (R63). Slot events take the stations of that offset in
ascending order: skipped by back-off, lapped when DUE or ENGAGED, else DUE at the tail of the normal group
(R64). That the end is a step of its own, which a further tick takes first (notes/assumptions/6.md), that the
tick acts whenever it is sent (4.md) and that no grant comes between the slot events of one value (5.md) are
the model's choices. -/
def Obligations.RoundsAndSlotEvents : Prop :=
  (∀ s : State,
    (s.survey.state ≠ .running → exec .roundTick s = .next s ∧ exec .roundEnd s = .next s) ∧
    (s.survey.state = .running →
      (s.survey.endDue = false →
        let up := { s with survey := { s.survey with
          roundTimer := s.survey.roundTimer + 1, tick := some 100 } }
        exec .roundEnd s = .next s ∧
        exec .roundTick s = .next (if s.survey.roundTimer + 1 < s.general.roundLength then slotEvents up
          else { up with survey := { up.survey with endDue := true } })) ∧
      (s.survey.endDue = true →
        (s.general.surveyMode = .continuous →
          let next := slotEvents { s with survey := { s.survey with
            roundNumber := (s.survey.roundNumber + 1) % 65536, roundTimer := 0, tick := some 100
            endDue := false } }
          let up := { next with survey := { next.survey with roundTimer := 1, tick := some 100 } }
          exec .roundEnd s = .next next ∧
          exec .roundTick s = .next (if 1 < s.general.roundLength then slotEvents up
            else { up with survey := { up.survey with endDue := true } })) ∧
        (s.general.surveyMode = .oncePerCycle →
          let done := { s with survey := { s.survey with state := .done, tick := none, endDue := false } }
          exec .roundEnd s = .next done ∧ exec .roundTick s = .next done)))) ∧
  ∀ s : State,
    let v := s.survey.roundTimer
    let taken := fun st => (s.stationRow st).enable = true ∧
      (s.portRow (s.stationRow st).homePort).enable = true ∧ (s.stationRow st).slotOffset = v ∧
      v < s.general.roundLength ∧
      ¬ (s.general.backOff ≠ 0 ∧ s.general.backOff ≤ (s.station st).failures ∧
        s.survey.roundNumber % 4 ≠ 0)
    let t := slotEvents s
    t = { s with survey := { s.survey with due := t.survey.due, stations := t.survey.stations },
                 engine := { s.engine with contexts := t.engine.contexts } } ∧
    (∀ c, t.context c = s.context c ∨
      t.context c = (s.context c).map fun d => { d with yieldPending := true }) ∧
    (∀ st, t.station st =
      if taken st then
        if (s.station st).run = .idle then { s.station st with run := .due, urgent := false }
        else { s.station st with lapped := true }
      else s.station st) ∧
    ∀ p, t.due p = { s.due p with
      normal := (s.due p).normal ++ allStations.filter fun st =>
        decide (taken st ∧ (s.station st).run = .idle ∧ (s.stationRow st).homePort = p) }

/-- The grace timer's expiry ends every engaged dialogue CUT (R72); SURVEY STOP puts the survey in OFF,
flushes the due queues, stops the grace and does the same (R74); SURVEY START writes the mode, sets round
timer and number to 0 and starts a round with the key ON, or stands PAUSED with it OFF (R73). The answers are
OK; a mode outside the table is answered BAD_ARG. The model's choices: the expiry acts whatever is left of the
grace (notes/assumptions/4.md), and the retention unit's check comes before a grant that the closes make
possible (23.md). -/
def Obligations.SurveyIsStartedAndStopped : Prop :=
  (∀ s : State, s.Inv →
    let t := cutAll s
    (∀ c, t.context c = none) ∧
    (∀ c d, s.context c = some d → (t.station d.station).run = .idle ∧
      (t.station d.station).lastOutcome = some .cut ∧
      (s.management.pendingCommit = none → (t.station d.station).resume = match d.n with
        | some n => some { next := d.expected, n := n }
        | none => (s.station d.station).resume)) ∧
    t.store = s.store ∧ t.clock = s.clock ∧ (∀ p, t.due p = s.due p) ∧ t.survey.state = s.survey.state) ∧
  (∀ s : State,
    (s.survey.grace = none → exec .keyOffGraceExpiry s = .next s) ∧
    (s.survey.grace ≠ none → exec .keyOffGraceExpiry s =
      .next (checkSleep (cutAll { s with survey := { s.survey with grace := none } })))) ∧
  ∀ (s : State) (p : Port) (rest : List Byte),
    (s.management.slot = .serving p (0x09 :: rest) →
      exec .surveyStop s = .next (checkSleep (respond (cutAll { s with survey := { s.survey with
        state := .off, tick := none, endDue := false, grace := none
        due := Vector.replicate 3 { urgent := [], normal := [] }
        stations := mapAll (fun x => if x.run = .due then { x with run := .idle, urgent := false } else x)
          s.survey.stations } }) p [[0x09, 0, 0, 0, 0, 0, 0, 0]]))) ∧
    ∀ mode : Byte, s.management.slot = .serving p (0x08 :: mode :: rest) →
      (2 ≤ mode.toNat →
        exec .surveyStart s = .next (checkSleep (respond s p [[0x08, 3, 0, 0, 0, 0, 0, 0]]))) ∧
      (mode.toNat < 2 →
        let moded := { s with
          tables := { s.tables with general := { s.tables.general with
            surveyMode := if mode = 0 then .oncePerCycle else .continuous } }
          survey := { s.survey with roundTimer := 0, roundNumber := 0, endDue := false } }
        let t := if s.clock.key = .on then
            slotEvents { moded with survey := { moded.survey with state := .running, tick := some 100 } }
          else { moded with survey := { moded.survey with state := .paused, tick := none } }
        exec .surveyStart s = .next (checkSleep (respond t p [[0x08, 0, 0, 0, 0, 0, 0, 0]])))

/-- A capture trigger that the store has handed on is taken by the entry's binding: with the snapshot enable
clear or the entry gone it has no effect; with no slot the lowest FREE slot takes the ring of the home port;
a read slot is captured into anew; an unread slot, or no FREE slot, sets the snapshot-missed flag. A
sequence number without an outstanding trigger changes nothing, nor does any in SLEEP. The post window's
expiry makes a FILLING slot COMPLETE (R145, R146, R147, R148). That a trigger is a step of its own, and that a
command without one, or in SLEEP, changes nothing, are the model's (notes/assumptions/7.md), as is that the
expiry acts whatever is left of the window (4.md). -/
def Obligations.CaptureTriggersAreTaken : Prop :=
  (∀ (seq : Nat) (s : State),
    ((∀ x ∈ s.snapshots.triggers, x.seq ≠ seq) ∨ s.retention.power = .sleep →
      exec (.captureTrigger seq) s = .next s) ∧
    ∀ before x behind, s.snapshots.triggers = before ++ x :: behind → (∀ y ∈ before, y.seq ≠ seq) →
      x.seq = seq → s.retention.power ≠ .sleep →
      let row := s.stationRow x.station
      let left := { s with snapshots := { s.snapshots with triggers := before ++ behind } }
      let fills := row.postCount ≠ 0 ∧ row.postWindow ≠ 0
      let withEntry := fun (t : State) (slot : Option SlotNo) (missed : Bool) =>
        { t with store := { t.store with entries := t.store.entries.map fun e =>
          if e.seq = seq then { e with slot := slot, missed := missed } else e } }
      let capture := fun i => withEntry (left.modSlot i fun _ =>
        { state := if fills then .filling else .complete, owner := some seq, port := row.homePort
          pre := s.ring row.homePort, post := [], target := row.postCount
          timer := if fills then some row.postWindow else none, read := false }) (some i) false
      (row.snapEnable = false ∨ s.entry seq = none →
        exec (.captureTrigger seq) s = .next left) ∧
      ∀ e, row.snapEnable = true → s.store.Ok → e ∈ s.store.entries → e.seq = seq →
        (e.slot = none →
          (∀ i, (s.slot i).state = .free → (∀ j, j < i → (s.slot j).state ≠ .free) →
            exec (.captureTrigger seq) s = .next (capture i)) ∧
          ((∀ i, (s.slot i).state ≠ .free) →
            exec (.captureTrigger seq) s = .next (withEntry left none true))) ∧
        ∀ i, e.slot = some i →
          ((s.slot i).read = true → exec (.captureTrigger seq) s = .next (capture i)) ∧
          ((s.slot i).read = false →
            exec (.captureTrigger seq) s = .next (withEntry left (some i) true))) ∧
  ∀ (i : SlotNo) (s : State),
    ((s.slot i).state = .filling → exec (.postWindowExpiry i) s =
      .next (s.modSlot i fun x => { x with state := .complete, timer := none })) ∧
    ((s.slot i).state ≠ .filling → exec (.postWindowExpiry i) s = .next s)

/-! ### Power -/

/-- The sleep-delay timer's expiry takes the part from RUN to SAVING when every condition of sleep entry
holds, with the mark INVALID and the tables and the store written; a completed save writes C and K, sets the
mark VALID and enters SLEEP, where queues and transmitters are empty, stations not DUE, slots not FILLING
and enabled ports DORMANT (R172, R173). The model's own: a request in the slot holds the save back
(notes/assumptions/1.md); the array holds C and K from the entry on and is given them anew at the end (13.md);
the entry into SLEEP empties the slot whatever it holds and stops the key-loss timer (14.md); the expiry acts
whatever is left of the delay (4.md), and a grant that could be made does not hold the save back (23.md). -/
def Obligations.SavingAndSleep : Prop :=
  (∀ (s : State) (n : Nat), s.retention.sleepTimer = .running n →
    let expired := { s with retention := { s.retention with sleepTimer := .expired } }
    let may := s.retention.power = .run ∧ s.clock.key = .off ∧ (∀ c, s.context c = none) ∧
      s.streamer.state = .idle ∧ s.management.pendingCommit = none ∧ s.serving = false
    (¬ may → exec .sleepDelayExpiry s = .next expired) ∧
    (may → exec .sleepDelayExpiry s = .next { expired with retention := { expired.retention with
      power := .saving, mark := .invalid
      image := { tables := s.tables, c := s.clock.c, k := s.clock.k
                 store := { s.store with
                   entries := s.store.entries.map fun e => { e with slot := none, seen := false } } } } })) ∧
  (∀ s : State, (∀ n, s.retention.sleepTimer ≠ .running n) → exec .sleepDelayExpiry s = .next s) ∧
  (∀ s : State, s.retention.power ≠ .saving → exec .saveComplete s = .next s) ∧
  ∀ s : State, s.retention.power = .saving → ∃ t, exec .saveComplete s = .next t ∧
    t.retention = { s.retention with
      power := .sleep, sleepTimer := .stopped, mark := .valid
      image := { s.retention.image with c := s.clock.c, k := s.clock.k } } ∧
    (∀ p, let u := s.port p
      let on := (s.portRow p).enable = true
      t.port p = { u with
        tx := none, forward := [], harvest := [], output := []
        state := if on then .dormant else u.state
        txErrors := if on ∧ u.state = .busOff then 0 else u.txErrors
        rxErrors := if on ∧ u.state = .busOff then 0 else u.rxErrors }) ∧
    t.management = { s.management with slot := .empty } ∧
    (∀ p, t.due p = { urgent := [], normal := [] }) ∧
    (∀ st, t.station st = if (s.station st).run = .due then
      { s.station st with run := .idle, urgent := false } else s.station st) ∧
    t.survey.grace = none ∧ t.survey.state = s.survey.state ∧
    t.survey.roundTimer = s.survey.roundTimer ∧ t.survey.roundNumber = s.survey.roundNumber ∧
    (∀ i, t.slot i = if (s.slot i).state = .filling then
      { s.slot i with state := .complete, timer := none } else s.slot i) ∧
    t.clock = { s.clock with keyLoss := none } ∧ t.snapshots.rings = s.snapshots.rings ∧
    t.store = s.store ∧ t.tables = s.tables ∧ t.engine = s.engine ∧ t.notice = s.notice ∧
    t.streamer = s.streamer

/-- Bus activity on an enabled port in SLEEP wakes the part: RUN, ports JOINING with TEC and REC kept, rings
empty, key OFF, the sleep-delay timer started; with the key source NONE a key-on event follows (R51, R54,
R77, R126, R137, R155, R165, R175). Elsewhere WAKE changes nothing, the model's choice, and what it keeps of
the fields of an IDLE streamer and of the capture triggers is the model's too (notes/assumptions/7.md, 14.md and
19.md). -/
def Obligations.WakeRestoresRun : Prop :=
  ∀ (p : Port) (s : State),
    (s.retention.power ≠ .sleep ∨ (s.portRow p).enable = false → exec (.wake p) s = .next s) ∧
    (s.retention.power = .sleep → (s.portRow p).enable = true → ∃ t,
      exec (.wake p) s =
        .next (if s.general.keySource = .noSource then keyOnEvent t else t) ∧
      t.retention = { s.retention with
        power := .run, sleepTimer := .running (1000 * s.general.sleepDelay) } ∧
      (∀ q, t.port q = { s.port q with
        state := if (s.portRow q).enable then .joining else .off
        tx := none, forward := [], harvest := [], output := []
        lastServed := .management, guardTimer := none }) ∧
      (∀ q, t.ring q = []) ∧ (∀ i, t.slot i = s.slot i) ∧
      t.clock = { s.clock with key := .off, keyLoss := none } ∧
      t.survey = { s.survey with
        state := if s.survey.state = .off then .off else .paused
        tick := none, endDue := false, grace := none } ∧
      t.engine = { s.engine with lastGranted := 2 } ∧
      t.management = { s.management with slot := .empty } ∧
      t.streamer = { s.streamer with state := .idle } ∧ t.store = s.store ∧ t.tables = s.tables ∧
      t.notice = s.notice)

/-- A power-on with a VALID image loads tables, entries (without slot and seen mark), next-sequence, counts,
C and K; with any other mark it takes the defaults, and the image-lost flag says whether the mark was
INVALID. Everything else starts anew, the mark is unchanged, and with the key source NONE a key-on event
follows (R6, R51, R54, R75, R126, R157, R170, R176). The model's own: the queue of commands is kept
(notes/assumptions/2.md), the count of grants starts at 0 (18.md), outstanding capture triggers are dropped
(7.md), and the fields of FREE slots are as 19.md gives. -/
def Obligations.PowerOnLoadsTheImage : Prop :=
  ∀ s : State, ∃ t, exec .powerOn s =
      .next (if t.general.keySource = .noSource then keyOnEvent t else t) ∧
    (s.retention.mark = .valid →
      t.tables = s.retention.image.tables ∧ t.clock.c = s.retention.image.c ∧
      t.clock.k = s.retention.image.k ∧
      t.store = { s.retention.image.store with
        entries := s.retention.image.store.entries.map fun e =>
          { e with slot := none, seen := false } }) ∧
    (s.retention.mark ≠ .valid →
      t.tables = Tables.default ∧ t.clock.c = 0 ∧ t.clock.k = 0 ∧
      t.store = { entries := [], nextSeq := 1, evictions := 0, refusals := 0 }) ∧
    t.retention.mark = s.retention.mark ∧ t.retention.image = s.retention.image ∧
    t.retention.power = .run ∧
    t.retention.sleepTimer = .running (1000 * t.general.sleepDelay) ∧
    (t.retention.imageLost = true ↔ s.retention.mark = .invalid) ∧
    t.clock.ms = 0 ∧ t.clock.hold = false ∧ t.clock.holdTimer = none ∧ t.clock.key = .off ∧
    t.clock.keyLoss = none ∧ t.survey = Survey.start ∧ t.engine = Engine.start ∧
    (∀ p, t.port p = PortUnit.start (if (t.portRow p).enable then .joining else .off)) ∧
    t.snapshots = SnapshotUnit.start ∧ t.management = Management.start ∧
    t.streamer.state = .idle ∧ t.notice = NoticeUnit.start ∧ t.pending = s.pending

/-! ### Answers, streams and notices -/

/-- An answer's frames join the response port's management output queue in order while it has free places, on
the response identifier in force; the slot is EMPTY when all are queued and holds the rest otherwise. Each
QUEUE_HELD_RESPONSE queues one more in a free place, and the last one empties the slot; without a free place,
or in any other slot, it changes nothing (R136, R153, R155). That a DORMANT port offers no place is the model's
reading, since R136 has no row for it (notes/assumptions/15.md); that a command without its condition changes
nothing is its choice (5.md). -/
def Obligations.AnswersAreQueuedOrHeld : Prop :=
  let room := fun (s : State) (p : Port) =>
    if (s.port p).state = .busOff ∨ (s.port p).state = .dormant then 0 else 8 - (s.port p).output.length
  (∀ (s : State) (p : Port) (frames : List (List Byte)),
    let t := respond s p frames
    t = { s with
      ports := t.ports
      management := { s.management with
        slot := if frames.length ≤ room s p then .empty
          else .waitingOutput p (frames.drop (room s p)) } } ∧
    (∀ q, q ≠ p → t.port q = s.port q) ∧
    t.port p = { s.port p with output :=
      (s.port p).output ++ (frames.take (room s p)).map s.managementFrame }) ∧
  (∀ (s : State) (p : Port) (b : List Byte) (rest : List (List Byte)),
    s.management.slot = .waitingOutput p (b :: rest) →
    (0 < room s p → exec .queueHeldResponse s =
      .next ({ s with management := { s.management with
        slot := if rest = [] then .empty else .waitingOutput p rest } }.modPort p fun u =>
          { u with output := u.output ++ [s.managementFrame b] })) ∧
    (room s p = 0 → exec .queueHeldResponse s = .next s)) ∧
  ∀ s : State, (∀ p held, s.management.slot ≠ .waitingOutput p held) →
    exec .queueHeldResponse s = .next s

/-- A look of an ENTRIES stream with three free places queues the two frames of the matching entry with the
lowest sequence number at or above the cursor, moves the cursor past it, raises the sent count and, with the
changed-only flag, clears the entry's changed flag; with no such entry it queues the end frame and is IDLE
(R166, R167). A look of a SNAPSHOT stream queues the two frames of the next captured frame, or the end frame
once every frame is sent or the slot is freed (R169). Without the places, or without such a stream, a look
changes nothing; nor does it before the OK frame of the stream's request is queued. That an export's end frame
too waits for three places is the model's reading of step 1 of R166 (notes/assumptions/8.md); that a look
acts whenever it is sent and its conditions hold (8.md), that without them it changes nothing (5.md), and what
the fields of the then IDLE streamer keep (19.md), are its choices. -/
def Obligations.StreamsQueueTheirFrames : Prop :=
  ∀ s : State, let x := s.streamer
    let b := fun n : Nat => BitVec.ofNat 8 n
    let four := fun n : Nat => [b (n / 16777216), b (n / 65536), b (n / 256), b n]
    let room := s.freePlaces x.port
    let going := x.state = .streaming ∧ s.okHeld = false
    let queued := fun (t : State) (fs : List (List Byte)) => t.modPort x.port fun u =>
      { u with output := u.output ++ fs.map (dataFrame s.general.responseId) }
    (s.readyToSleep = false →
      (¬ going ∨ x.kind = .snapshot → exec .exportLook s = .next s) ∧
      (¬ going ∨ x.kind = .entries → exec .snapshotLook s = .next s)) ∧
    (going → x.kind = .entries →
      let wanted := fun e : Entry => x.cursor ≤ e.seq ∧ (x.filter = none ∨ x.filter = some e.station) ∧
        (e.changed = true ∨ x.changedOnly = false)
      (room < 3 → exec .exportLook s = .next s) ∧
      (3 ≤ room → (∀ e ∈ s.store.entries, ¬ wanted e) →
        exec .exportLook s = .next (checkSleep (queued { s with streamer := { x with state := .idle } }
          [[0x1D, b (x.sent / 256), b x.sent] ++ four s.store.nextSeq ++ [0]]))) ∧
      (3 ≤ room → s.store.Ok → ∀ e ∈ s.store.entries, wanted e →
        (∀ e' ∈ s.store.entries, wanted e' → e.seq ≤ e'.seq) →
        let state := match e.state with
          | .active => 0
          | .pending => 1
          | .stored => 2
          | .gone => 3
        let slot := match e.slot with
          | some i => i.val
          | none => 31
        let frameA := [b (0x40 + e.station.val)] ++ four e.seq ++
          [b (e.code / 65536), b (e.code / 256), b e.code]
        let frameB := [b (0x80 + 16 * state + 2 * e.peak + if e.missed then 1 else 0)] ++
          four e.lastReport ++ [b (e.total / 256), b e.total,
            b ((if e.sources.announce then 64 else 0) + (if e.sources.readback then 128 else 0) +
              (if e.last = none then 0 else 32) + slot)]
        exec .exportLook s = .next (queued { s with
          streamer := { x with cursor := e.seq + 1, sent := min 65535 (x.sent + 1) }
          store := { s.store with entries := s.store.entries.map fun y =>
            if x.changedOnly = true ∧ y.seq = e.seq then { y with changed := false } else y } }
          [frameA, frameB]))) ∧
    (going → x.kind = .snapshot →
      let sl := s.slot x.slot
      let finished := x.slotLost = true ∨ x.total ≤ x.sent
      (finished ∧ room = 0 ∨ ¬ finished ∧ room < 3 → exec .snapshotLook s = .next s) ∧
      (finished → 0 < room →
        let read := if x.slotLost then s else s.modSlot x.slot fun y => { y with read := true }
        exec .snapshotLook s = .next (checkSleep (queued { read with streamer := { x with state := .idle } }
          [[0x1F] ++ four x.owner ++ [b x.sent, if x.slotLost then 0 else 1, 0]]))) ∧
      (¬ finished → 3 ≤ room → ∀ f, (sl.pre ++ sl.post)[x.sent]? = some f →
        let id := match f.frame.id with
          | .standard v => v.toNat
          | .extended v => 2147483648 + v.toNat
        let first := [b (0x20 + (if x.sent < sl.pre.length then 0 else 16) + x.sent % 16)] ++
          four (id + if f.frame.remote then 1073741824 else 0) ++
          [b (16 * f.frame.dlc + 4 * (f.c % 256 / 64) + f.ms / 256), b f.ms, f.frame.data.getD 7 0]
        let second := b (0xC0 + f.c % 64) :: (List.range 7).map fun i => f.frame.data.getD i 0
        exec .snapshotLook s = .next (queued { s with
          streamer := { x with sent := min 65535 (x.sent + 1) } } [first, second])))

/-- A notice is queued when notices are enabled, the pending count is not 0, the interval timer has elapsed
and the notice port's queue has a free place; the count becomes 0 and the timer starts; otherwise nothing
changes (R171). NOTICES writes the enable, the port and the interval of the general row, and an argument
outside its range is answered BAD_ARG (R170). That QUEUE_NOTICE without its conditions changes nothing is the
model's choice (notes/assumptions/5.md). -/
def Obligations.NoticesAreCountedAndSent : Prop :=
  (∀ s : State, s.retention.power ≠ .sleep →
    let g := s.general
    let due := g.noticeEnable = true ∧ s.notice.count ≠ 0 ∧ s.notice.timer = none ∧
      0 < s.freePlaces g.noticePort
    (¬ due → exec .queueNotice s = .next s) ∧
    (due → ∀ n, s.notice.latest = some n → exec .queueNotice s = .next
      ({ s with notice := { s.notice with count := 0, timer := some g.noticeInterval } }.modPort
        g.noticePort fun u => { u with output := u.output ++ [dataFrame g.responseId
          [0x1E, BitVec.ofNat 8 (n / 16777216), BitVec.ofNat 8 (n / 65536), BitVec.ofNat 8 (n / 256),
           BitVec.ofNat 8 n, BitVec.ofNat 8 s.notice.count, 0, 0]] }))) ∧
  ∀ (s : State) (p : Port) (on port interval : Byte) (rest : List Byte),
    s.management.slot = .serving p (0x12 :: on :: port :: interval :: rest) →
    (2 < port.toNat ∨ interval = 0 →
      exec .notices s = .next (checkSleep (respond s p [[0x12, 3, 0, 0, 0, 0, 0, 0]]))) ∧
    ∀ q : Port, q.val = port.toNat → interval ≠ 0 →
      exec .notices s = .next (checkSleep (respond { s with tables := { s.tables with
        general := { s.general with
          noticeEnable := decide (on ≠ 0), noticePort := q
          noticeInterval := 100 * interval.toNat } } } p [[0x12, 0, 0, 0, 0, 0, 0, 0]]))

/-! ### Requests -/

/-- A request command changes nothing while the slot holds no request or one of another kind. A frame without
data and an unknown code are answered BAD_REQUEST, and a request that lacks an argument byte BAD_ARG, with no
effect (R153, R154, R155, R177). That a request is served by a command of its own, after the arrival that
brought it, is the model's choice (notes/assumptions/1.md); that a missing byte is judged before anything
else is its reading of R153 (10.md). -/
def Obligations.UnservedAndRefusedRequests : Prop :=
  (∀ (s : State) (k : RequestKind), s.readyToSleep = false →
    (s.serving = false → exec k.command s = .next s) ∧
    ∀ p data, s.management.slot = .serving p data → requestKind data ≠ k → exec k.command s = .next s) ∧
  (∀ (s : State) (p : Port),
    (s.management.slot = .serving p [] →
      exec .unknownRequest s = .next (checkSleep (respond s p [[0, 2, 0, 0, 0, 0, 0, 0]]))) ∧
    ∀ (code : Byte) (args : List Byte), s.management.slot = .serving p (code :: args) →
      code = 0 ∨ 0x14 ≤ code.toNat →
      exec .unknownRequest s = .next (checkSleep (respond s p [[code, 2, 0, 0, 0, 0, 0, 0]]))) ∧
  ∀ (s : State) (p : Port) (args : List Byte),
    ∀ r ∈ ([(.portStatus, 0x02, 1), (.stationStatus, 0x03, 1), (.readRow, 0x04, 2), (.stage, 0x05, 1),
        (.commit, 0x06, 2), (.surveyStart, 0x08, 1), (.readNow, 0x0A, 1), (.setClock, 0x0B, 4),
        (.recover, 0x0C, 1), (.clear, 0x0D, 1), (.exportStart, 0x0E, 6), (.snapshot, 0x10, 4),
        (.release, 0x11, 4), (.notices, 0x12, 3), (.readEntry, 0x13, 4)] : List (Instr × Byte × Nat)),
      s.management.slot = .serving p (r.2.1 :: args) → args.length < r.2.2 →
        exec r.1 s = .next (checkSleep (respond s p [[r.2.1, 3, 0, 0, 0, 0, 0, 0]]))

/-- The answers of STATUS, PORT_STATUS, STATION_STATUS, READ_ENTRY and READ_ROW, byte by byte; only
STATION_STATUS has an effect, clearing the lapped flag after reading it; a port, station, table or row out of
range is answered BAD_ARG, and an entry not in the store NOT_FOUND (R61, R160, R161, R162, R163, R177). -/
def Obligations.StatusRequestsReport : Prop :=
  let b := fun n : Nat => BitVec.ofNat 8 n
  let two := fun n : Nat => [b (n / 256), b n]
  let four := fun n : Nat => [b (n / 16777216), b (n / 65536), b (n / 256), b n]
  let bit := fun (w : Nat) (x : Bool) => if x then w else 0
  let zeros := fun n : Nat => List.replicate n (0 : Byte)
  ∀ (s : State) (p : Port) (rest : List Byte),
    let answer := fun (t : State) (frames : List (List Byte)) =>
      (.next (checkSleep (respond t p frames)) : Host.Outcome State Fault Refusal)
    (s.management.slot = .serving p (0x01 :: rest) →
      let survey := match s.survey.state with
        | .off => 0
        | .running => 1
        | .done => 2
        | .paused => 3
      let waits : List Byte := match s.management.pendingCommit with
        | none => [0xFF, 0xFF]
        | some (.station n _) => [1, b n.val]
        | some (.format n _) => [2, b n.val]
      exec .status s = answer s
        [[1, 0, b survey, b (bit 1 (decide (s.clock.key = .on)) + bit 2 s.retention.imageLost +
            bit 4 s.management.pendingCommit.isSome)] ++ four s.clock.c,
         [1, 0] ++ two s.clock.k ++ two s.store.entries.length ++ two s.store.evictions,
         [1, 0] ++ two s.store.refusals ++ [b s.management.overruns] ++ waits ++ [0]]) ∧
    (∀ n : Byte, s.management.slot = .serving p (0x02 :: n :: rest) →
      (3 ≤ n.toNat → exec .portStatus s = answer s [[2, 3] ++ zeros 6]) ∧
      ∀ q : Port, q.val = n.toNat → (s.port q).state ≠ .dormant →
        let u := s.port q
        let state := match u.state with
          | .off => 0
          | .joining => 1
          | .active => 2
          | .passive => 3
          | .busOff => 4
          | .listen => 5
          | .dormant => 6
        exec .portStatus s = answer s
          [[2, 0, b state] ++ two u.txErrors ++ [b u.rxErrors] ++ two u.drops,
           [2, 0] ++ two u.strays ++ two u.malformed ++ two u.busOffs]) ∧
    (∀ n : Byte, s.management.slot = .serving p (0x03 :: n :: rest) →
      (48 ≤ n.toNat → exec .stationStatus s = answer s [[3, 3] ++ zeros 6]) ∧
      ∀ st : StationNo, st.val = n.toNat →
        let x := s.station st
        let run := match x.run with
          | .idle => 0
          | .due => 1
          | .engaged => 2
        let outcome := match x.lastOutcome with
          | none => 0
          | some .complete => 1
          | some .short => 2
          | some .abandoned => 3
          | some .suspended => 4
          | some .cut => 5
          | some .portLost => 6
        let resume := match x.resume with
          | none => zeros 4
          | some r => two r.next ++ two r.n
        let complete := match x.lastComplete with
          | none => zeros 4
          | some c => four c
        exec .stationStatus s = answer (s.modStation st fun y => { y with lapped := false })
          [[3, 0, b st.val, b run, b x.failures, b outcome,
            b (bit 1 x.lapped + bit 2 x.resume.isSome + bit 4 x.lastComplete.isSome), 0],
           [3, 0] ++ resume ++ zeros 2, [3, 0] ++ complete ++ zeros 2]) ∧
    (∀ (b1 b2 b3 b4 : Byte), s.management.slot = .serving p (0x13 :: b1 :: b2 :: b3 :: b4 :: rest) →
      let seq := ((b1.toNat * 256 + b2.toNat) * 256 + b3.toNat) * 256 + b4.toNat
      ((∀ e ∈ s.store.entries, e.seq ≠ seq) → exec .readEntry s = answer s [[0x13, 5] ++ zeros 6]) ∧
      (s.store.Ok → ∀ e ∈ s.store.entries, e.seq = seq →
        let stamp := fun t : Option Stamp => match t with
          | none => zeros 6
          | some y => four y.c ++ two y.k
        exec .readEntry s = answer s
          [[0x13, 0] ++ four e.firstReport ++ [b (bit 1 e.firstActive.isSome), 0],
           [0x13, 0] ++ stamp e.firstActive, [0x13, 0] ++ stamp e.lastActive])) ∧
    ∀ t n : Byte, s.management.slot = .serving p (0x04 :: t :: n :: rest) →
      let reports := fun (row : List Byte) => ∃ frames, exec .readRow s = answer s frames ∧
        frames.length = (row.length + 5) / 6 ∧ (∀ f ∈ frames, f.length = 8 ∧ f.take 2 = [4, 0]) ∧
        (frames.map (List.drop 2)).flatten =
          row ++ zeros (6 * ((row.length + 5) / 6) - row.length)
      (5 ≤ t.toNat ∨ (t = 0 ∧ 96 ≤ n.toNat) ∨ (t = 1 ∧ 48 ≤ n.toNat) ∨ (t = 2 ∧ 12 ≤ n.toNat) ∨
          (t = 3 ∧ 3 ≤ n.toNat) ∨ (t = 4 ∧ n ≠ 0) →
        exec .readRow s = answer s [[4, 3] ++ zeros 6]) ∧
      (t = 0 → ∀ i : Fin 96, i.val = n.toNat → reports (encodeIdent (s.tables.ident.get i))) ∧
      (t = 1 → ∀ i : Fin 48, i.val = n.toNat → reports (encodeStation (s.tables.stations.get i))) ∧
      (t = 2 → ∀ i : Fin 12, i.val = n.toNat → reports (encodeFormat (s.tables.formats.get i))) ∧
      (t = 3 → ∀ i : Fin 3, i.val = n.toNat → reports (encodePort (s.tables.ports.get i))) ∧
      (t = 4 → n = 0 → reports (encodeGeneral s.tables.general))

/-- STAGE writes its bytes from the offset on and keeps the rest of the buffer; it is refused when the offset
is above 31 or the bytes would reach beyond 32 (R157). -/
def Obligations.StageWritesTheBuffer : Prop :=
  ∀ (s : State) (p : Port) (offset : Byte) (bytes : List Byte),
    s.management.slot = .serving p (0x05 :: offset :: bytes) →
    (31 < offset.toNat ∨ 32 < offset.toNat + bytes.length →
      exec .stage s = .next (checkSleep (respond s p [[5, 3, 0, 0, 0, 0, 0, 0]]))) ∧
    (offset.toNat ≤ 31 → offset.toNat + bytes.length ≤ 32 → ∃ v : Vector Byte 32,
      exec .stage s = .next (checkSleep (respond
        { s with management := { s.management with staging := v } } p [[5, 0, 0, 0, 0, 0, 0, 0]])) ∧
      ∀ i : Fin 32, v.get i =
        if offset.toNat ≤ i.val ∧ i.val < offset.toNat + bytes.length then
          bytes.getD (i.val - offset.toNat) 0
        else s.management.staging.get i)

/-- COMMIT is answered BUSY while a commit is pending, and BAD_ARG for a table or row out of range or a staged
row that fails its checks; an ENGAGED station's row and a descriptor that an ENGAGED station names are held
and answered DEFERRED; any other row is in force at once, with the effects of R57 for a station, R125 for a
port and R44 and R51 for the general row, and is answered OK on the state it has made (R158, R159). A row that
takes away the grant a look was waiting for brings the preemption check of that look (R95), the model's reading
(notes/assumptions/5.md); that a grant which the closes make possible comes after the retention unit's check is
its choice (23.md). -/
def Obligations.CommitChecksAndApplies : Prop :=
  ∀ (s : State) (p : Port) (table row : Byte) (rest : List Byte),
    s.management.slot = .serving p (0x06 :: table :: row :: rest) →
    let answer := fun (t : State) (result : Byte) =>
      exec .commit s = .next (checkSleep (respond t p [[6, result, 0, 0, 0, 0, 0, 0]]))
    let staged := s.management.staging.toList
    (s.management.pendingCommit ≠ none → answer s 1) ∧
    (s.management.pendingCommit = none →
      (5 ≤ table.toNat ∨ (table = 0 ∧ 96 ≤ row.toNat) ∨ (table = 1 ∧ 48 ≤ row.toNat) ∨
        (table = 2 ∧ 12 ≤ row.toNat) ∨ (table = 3 ∧ 3 ≤ row.toNat) ∨ (table = 4 ∧ row ≠ 0) →
        answer s 3) ∧
      (table = 0 → ∀ n : Fin 96, n.val = row.toNat →
        (decodeIdent staged = none → answer s 3) ∧
        ∀ r, decodeIdent staged = some r →
          answer { s with tables := { s.tables with ident := s.tables.ident.set n.val r n.isLt } } 0) ∧
      (table = 1 → ∀ n : Fin 48, n.val = row.toNat →
        let old := s.stationRow n
        let dec := decodeStation s.general.roundLength staged
        (dec = none → answer s 3) ∧
        ∀ r, dec = some r →
          ((s.station n).run = .engaged → answer { s with management := { s.management with
            pendingCommit := some (.station n r) } } 4) ∧
          ((s.station n).run ≠ .engaged →
            let keeps := r.enable = true ∧ r.homePort = old.homePort
            let leaves := (s.station n).run = .due ∧ ¬ keeps
            let applied := { s with tables := { s.tables with
              stations := s.tables.stations.set n.val r n.isLt } }.modStation n fun x =>
                { x with
                  resume := none, failures := 0, lapped := false
                  run := if leaves then .idle else x.run
                  urgent := if leaves then false else x.urgent }
            answer (if keeps then applied else settleLook (applied.modDue old.homePort fun q =>
              { urgent := q.urgent.filter (fun y => y ≠ n)
                normal := q.normal.filter (fun y => y ≠ n) }) s) 0)) ∧
      (table = 2 → ∀ n : Fin 12, n.val = row.toNat →
        let used := ∃ st, (s.station st).run = .engaged ∧ (s.stationRow st).descriptor = n
        (decodeFormat staged = none → answer s 3) ∧
        ∀ r, decodeFormat staged = some r →
          (used → answer { s with management := { s.management with
            pendingCommit := some (.format n r) } } 4) ∧
          (¬ used → answer { s with tables := { s.tables with
            formats := s.tables.formats.set n.val r n.isLt } } 0)) ∧
      (table = 3 → ∀ n : Fin 3, n.val = row.toNat →
        (decodePort n staged = none → answer s 3) ∧
        ∀ r, decodePort n staged = some r →
          let base := { s with tables := { s.tables with
            ports := s.tables.ports.set n.val r n.isLt } }.modPort n fun u =>
              { u with
                tx := none, forward := [], harvest := [], output := []
                lastServed := .management, guardTimer := none, txErrors := 0, rxErrors := 0
                state := if r.enable then .joining else .off }
          let lost := losePort base n
          answer (settleLook (if lost.streamer.state = .streaming ∧ lost.streamer.port = n then
            { lost with streamer := { lost.streamer with state := .paused } } else lost) s) 0) ∧
      (table = 4 → row = 0 →
        (decodeGeneral staged = none → answer s 3) ∧
        ∀ r, decodeGeneral staged = some r →
          let old := s.general
          let released := old.clockSource = .vehicle ∧ r.clockSource = .internal
          let base := { s with
            tables := { s.tables with general := r }
            clock := { s.clock with
              hold := if released then false else s.clock.hold
              holdTimer := if released then none else s.clock.holdTimer
              keyLoss :=
                if old.keySource = .keyFrames ∧ r.keySource = .noSource then none
                else if old.keySource = .noSource ∧ r.keySource = .keyFrames then
                  some (1000 * r.keyLossTime)
                else s.clock.keyLoss } }
          answer (if old.keySource = .keyFrames ∧ r.keySource = .noSource ∧ s.clock.key = .off then
            keyOnEvent base else base) 0))

/-- SOFT_RESET drops the pending commit, stops the streamer and the survey with its due queues, ends every
dialogue CUT, empties every queue and transmitter, sends the enabled ports to JOINING with TEC and REC 0,
resets both arbiters, empties the rings and completes the FILLING slots; store, tables, clock, staging buffer,
notices, retention unit and the counts of the ports stay (R98, R126, R137, R143, R144, R164). That outstanding
capture triggers stay too is the model's choice (notes/assumptions/7.md), as is what the other fields of the
IDLE streamer keep (19.md). -/
def Obligations.SoftResetKeepsTheHistory : Prop :=
  ∀ (s : State) (p : Port) (rest : List Byte), s.Inv →
    s.management.slot = .serving p (0x07 :: rest) → ∃ t,
      exec .softReset s = .next (checkSleep (respond t p [[7, 0, 0, 0, 0, 0, 0, 0]])) ∧
      t.management = { s.management with pendingCommit := none } ∧
      t.streamer = { s.streamer with state := .idle } ∧
      t.survey.state = .off ∧ t.survey.tick = none ∧ t.survey.endDue = false ∧ t.survey.grace = none ∧
      t.survey.roundNumber = 0 ∧ (∀ q, t.due q = { urgent := [], normal := [] }) ∧
      (∀ st, (t.station st).run = .idle ∧ (t.station st).urgent = false) ∧
      (∀ st, (∀ c d, s.context c = some d → d.station ≠ st) →
        t.station st = { s.station st with run := .idle, urgent := false }) ∧
      (∀ c d, s.context c = some d → t.station d.station = { s.station d.station with
        run := .idle, urgent := false, lastOutcome := some .cut
        resume := match d.n with
          | some n => some { next := d.expected, n := n }
          | none => (s.station d.station).resume }) ∧
      (∀ c, t.context c = none) ∧ t.engine.lastGranted = 2 ∧
      (∀ q, t.port q = { s.port q with
        state := if (s.portRow q).enable then .joining else .off
        txErrors := 0, rxErrors := 0, tx := none, forward := [], harvest := [], output := []
        lastServed := .management, guardTimer := none }) ∧
      (∀ q, t.ring q = []) ∧
      (∀ i, t.slot i = if (s.slot i).state = .filling then
        { s.slot i with state := .complete, timer := none } else s.slot i) ∧
      t.snapshots.triggers = s.snapshots.triggers ∧ t.store = s.store ∧ t.clock = s.clock ∧
      t.tables = s.tables ∧ t.notice = s.notice ∧ t.retention = s.retention

/-- READ_NOW makes an enabled station urgent-due: an IDLE one joins the urgent group, a DUE one of the normal
group moves there, an urgent one stays; an ENGAGED one is answered BUSY, a disabled row or a number above 47
BAD_ARG (R68). SET_CLOCK sets C, the millisecond counter 0, and clears the hold (R47). RECOVER sends a BUS_OFF
port to JOINING with TEC and REC 0, and is answered BAD_ARG for any other port (R124). -/
def Obligations.ReadNowSetClockRecover : Prop :=
  ∀ (s : State) (p : Port) (rest : List Byte),
    (∀ n : Byte, s.management.slot = .serving p (0x0A :: n :: rest) →
      let answer := fun (t : State) (result : Byte) =>
        exec .readNow s = .next (checkSleep (respond t p [[0x0A, result, 0, 0, 0, 0, 0, 0]]))
      (48 ≤ n.toNat → answer s 3) ∧
      ∀ st : StationNo, st.val = n.toNat →
        let home := (s.stationRow st).homePort
        let urgent := { s.station st with run := .due, urgent := true }
        let queue := { urgent := (s.due home).urgent ++ [st]
                       normal := (s.due home).normal.filter (fun x => x ≠ st) : DueQueue }
        ((s.stationRow st).enable = false → answer s 3) ∧
        ((s.stationRow st).enable = true → (s.station st).run = .engaged → answer s 1) ∧
        ((s.stationRow st).enable = true → (s.station st).run = .due → (s.station st).urgent = true →
          answer s 0) ∧
        ((s.stationRow st).enable = true → (s.station st).run ≠ .engaged →
          (s.station st).urgent = false → DueOk s → ∃ t, answer t 0 ∧
            ((s.modStation st fun _ => urgent).modDue home fun _ => queue).YieldOnly t)) ∧
    (∀ b1 b2 b3 b4 : Byte, s.management.slot = .serving p (0x0B :: b1 :: b2 :: b3 :: b4 :: rest) →
      exec .setClock s = .next (checkSleep (respond { s with clock := { s.clock with
        c := ((b1.toNat * 256 + b2.toNat) * 256 + b3.toNat) * 256 + b4.toNat
        ms := 0, hold := false, holdTimer := none } } p [[0x0B, 0, 0, 0, 0, 0, 0, 0]]))) ∧
    ∀ n : Byte, s.management.slot = .serving p (0x0C :: n :: rest) →
      (3 ≤ n.toNat → exec .recover s =
        .next (checkSleep (respond s p [[0x0C, 3, 0, 0, 0, 0, 0, 0]]))) ∧
      ∀ q : Port, q.val = n.toNat →
        ((s.port q).state ≠ .busOff → exec .recover s =
          .next (checkSleep (respond s p [[0x0C, 3, 0, 0, 0, 0, 0, 0]]))) ∧
        ((s.port q).state = .busOff → exec .recover s = .next (checkSleep (respond
          (s.modPort q fun u => { u with state := .joining, txErrors := 0, rxErrors := 0 }) p
          [[0x0C, 0, 0, 0, 0, 0, 0, 0]])))

/-- CLEAR of a station removes its entries and its resume point, CLEAR of all stations every entry and every
resume point; the slots of removed entries are freed, the answer gives how many entries went, and
next-sequence and the counts stay (R19, R20, R150). RELEASE frees the slot of the named entry, whatever its
read flag; an entry not in the store or without a slot is answered NOT_FOUND (R151). The port 0 of a freed slot
is the model's choice (notes/assumptions/19.md). -/
def Obligations.ClearAndRelease : Prop :=
  let cleared := fun (s t : State) (gone : Entry → Prop) =>
    (∀ e, e ∈ t.store.entries ↔ e ∈ s.store.entries ∧ ¬ gone e) ∧
    (t.store.entries.map Entry.seq).Pairwise (· < ·) ∧
    t.store = { s.store with entries := t.store.entries } ∧
    (∀ i, (∃ e ∈ s.store.entries, gone e ∧ e.slot = some i) → t.slot i = Slot.freed) ∧
    (∀ i, (∀ e ∈ s.store.entries, gone e → e.slot ≠ some i) → t.slot i = s.slot i) ∧
    t.snapshots.rings = s.snapshots.rings ∧ t.snapshots.triggers = s.snapshots.triggers ∧
    (∀ st, t.station st = { s.station st with
      resume := (t.station st).resume }) ∧ (∀ q, t.due q = s.due q) ∧ t.engine = s.engine ∧
    t.ports = s.ports ∧ t.clock = s.clock ∧ t.tables = s.tables ∧ t.management = s.management ∧
    t.notice = s.notice ∧ t.streamer = { s.streamer with slotLost := t.streamer.slotLost }
  ∀ (s : State) (p : Port) (rest : List Byte), s.Inv →
    (∀ b : Byte, s.management.slot = .serving p (0x0D :: b :: rest) →
      (48 ≤ b.toNat → b ≠ 0xFF → exec .clear s =
        .next (checkSleep (respond s p [[0x0D, 3, 0, 0, 0, 0, 0, 0]]))) ∧
      (∀ st : StationNo, st.val = b.toNat →
        let n := (s.store.entries.filter fun e => e.station = st).length
        ∃ t, exec .clear s = .next (checkSleep (respond t p
            [[0x0D, 0, BitVec.ofNat 8 (n / 256), BitVec.ofNat 8 n, 0, 0, 0, 0]])) ∧
          cleared s t (fun e => e.station = st) ∧ (t.station st).resume = none ∧
          ∀ x, x ≠ st → t.station x = s.station x) ∧
      (b = 0xFF →
        let n := s.store.entries.length
        ∃ t, exec .clearAll s = .next (checkSleep (respond t p
            [[0x0D, 0, BitVec.ofNat 8 (n / 256), BitVec.ofNat 8 n, 0, 0, 0, 0]])) ∧
          cleared s t (fun _ => True) ∧ ∀ x, (t.station x).resume = none)) ∧
    ∀ b1 b2 b3 b4 : Byte, s.management.slot = .serving p (0x11 :: b1 :: b2 :: b3 :: b4 :: rest) →
      let seq := ((b1.toNat * 256 + b2.toNat) * 256 + b3.toNat) * 256 + b4.toNat
      ((∀ e ∈ s.store.entries, e.seq = seq → e.slot = none) →
        exec .release s = .next (checkSleep (respond s p [[0x11, 5, 0, 0, 0, 0, 0, 0]]))) ∧
      ∀ e ∈ s.store.entries, e.seq = seq → ∀ i, e.slot = some i →
        let unbound : State := { s with
          store := { s.store with entries := s.store.entries.map fun x =>
            if x.seq = seq then { x with slot := none } else x }
          streamer := { s.streamer with
            slotLost := s.streamer.slotLost || decide (s.streamer.state ≠ .idle ∧
              s.streamer.kind = .snapshot ∧ s.streamer.slot = i) } }
        exec .release s = .next (checkSleep (respond (unbound.modSlot i fun _ =>
          { state := .free, owner := none, port := 0, pre := [], post := [], target := 0
            timer := none, read := false }) p [[0x11, 0, 0, 0, 0, 0, 0, 0]]))

/-- EXPORT and SNAPSHOT are answered BUSY while the streamer is not IDLE, EXPORT BAD_ARG for a filter above
47 that is not ALL, SNAPSHOT NOT_FOUND without an entry that has a slot; otherwise the streamer is STREAMING
to the requesting port with its cursor, filter, flag and counts set, and SNAPSHOT clears the slot's read flag
(R166, R169). EXPORT_STOP makes the streamer IDLE and is always answered OK (R168). That EXPORT is answered BUSY
before its filter is judged is the model's reading (notes/assumptions/8.md), and what the other fields of the
streamer keep is its choice (19.md). -/
def Obligations.StreamRequestsSetTheStreamer : Prop :=
  ∀ (s : State) (p : Port) (b1 b2 b3 b4 : Byte) (rest : List Byte),
    let seq := ((b1.toNat * 256 + b2.toNat) * 256 + b3.toNat) * 256 + b4.toNat
    (∀ filter flag : Byte,
      s.management.slot = .serving p (0x0E :: b1 :: b2 :: b3 :: b4 :: filter :: flag :: rest) →
      let answer := fun (t : State) (result : Byte) =>
        exec .exportStart s = .next (checkSleep (respond t p [[0x0E, result, 0, 0, 0, 0, 0, 0]]))
      let started := fun f : Option StationNo => { s with streamer := { s.streamer with
        state := .streaming, kind := .entries, port := p, cursor := max 1 seq, filter := f
        changedOnly := decide (flag ≠ 0), sent := 0 } }
      (s.streamer.state ≠ .idle → answer s 1) ∧
      (s.streamer.state = .idle →
        (48 ≤ filter.toNat → filter ≠ 0xFF → answer s 3) ∧
        (filter = 0xFF → answer (started none) 0) ∧
        ∀ st : StationNo, st.val = filter.toNat → answer (started (some st)) 0)) ∧
    (s.management.slot = .serving p (0x10 :: b1 :: b2 :: b3 :: b4 :: rest) →
      let answer := fun (t : State) (result : Byte) =>
        exec .snapshot s = .next (checkSleep (respond t p [[0x10, result, 0, 0, 0, 0, 0, 0]]))
      (s.streamer.state ≠ .idle → answer s 1) ∧
      (s.streamer.state = .idle →
        ((∀ e ∈ s.store.entries, e.seq = seq → e.slot = none) → answer s 5) ∧
        (s.store.Ok → ∀ e ∈ s.store.entries, e.seq = seq → ∀ i, e.slot = some i →
          answer ({ s with streamer := { s.streamer with
            state := .streaming, kind := .snapshot, port := p, sent := 0, slot := i
            total := (s.slot i).pre.length + (s.slot i).post.length, owner := seq
            slotLost := false } }.modSlot i fun x => { x with read := false }) 0))) ∧
    (s.management.slot = .serving p (0x0F :: rest) →
      exec .exportStop s = .next (checkSleep (respond { s with
        streamer := { s.streamer with state := .idle } } p [[0x0F, 0, 0, 0, 0, 0, 0, 0]])))
end

