-- ==== Sys2Proof/Laws/State.lean ====
section
/-! SUPPORT. What each update of the state leaves and what it changes: one lemma per field per update, all
true by `rfl`, and the reading lemmas of the fixed tables. -/

namespace Sys2Proof.Machine

/-! ### Fixed tables -/

/-- Reading an element after one element has been changed. -/
@[simp] theorem modifyAt_get {α : Type} {n : Nat} (v : Vector α n) (i j : Fin n) (f : α → α) :
    (modifyAt v i f).get j = if j = i then f (v.get j) else v.get j := by
  by_cases h : j = i
  · subst h; simp [modifyAt, Vector.get_eq_getElem]
  · simp [modifyAt, Vector.get_eq_getElem, h, Vector.getElem_set, eq_comm]
    omega

/-- Reading an element after all have been changed. -/
@[simp] theorem mapAll_get {α β : Type} {n : Nat} (v : Vector α n) (j : Fin n) (f : α → β) :
    (mapAll f v).get j = f (v.get j) := by
  simp [mapAll, Vector.get_eq_getElem]

/-- Two fixed tables with the same elements are the same. -/
theorem vector_ext_get {α : Type} {n : Nat} {v w : Vector α n} (h : ∀ i, v.get i = w.get i) : v = w := by
  apply Vector.ext
  intro i hi
  exact h ⟨i, hi⟩

/-- Changing an element to what it is changes nothing. -/
theorem modifyAt_id {α : Type} {n : Nat} (v : Vector α n) (i : Fin n) (f : α → α) (h : f (v.get i) = v.get i) :
    modifyAt v i f = v := by
  apply vector_ext_get
  intro j
  rw [modifyAt_get]
  split
  · next hj => subst hj; exact h
  · rfl

/-- A property of a fold's value that every round keeps. -/
theorem foldl_keeps {α β γ : Type} (g : α → γ) (f : α → β → α) (h : ∀ a b, g (f a b) = g a) (l : List β) :
    ∀ a, g (l.foldl f a) = g a := by
  induction l with
  | nil => intro a; rfl
  | cons b l ih => intro a; rw [List.foldl_cons, ih, h]

/-! ### `modPort` -/

@[simp] theorem State.modPort_pending (s : State) (p : Port) (f : PortUnit → PortUnit) :
    (s.modPort p f).pending = s.pending := rfl
@[simp] theorem State.modPort_tables (s : State) (p : Port) (f : PortUnit → PortUnit) :
    (s.modPort p f).tables = s.tables := rfl
@[simp] theorem State.modPort_store (s : State) (p : Port) (f : PortUnit → PortUnit) :
    (s.modPort p f).store = s.store := rfl
@[simp] theorem State.modPort_clock (s : State) (p : Port) (f : PortUnit → PortUnit) :
    (s.modPort p f).clock = s.clock := rfl
@[simp] theorem State.modPort_survey (s : State) (p : Port) (f : PortUnit → PortUnit) :
    (s.modPort p f).survey = s.survey := rfl
@[simp] theorem State.modPort_engine (s : State) (p : Port) (f : PortUnit → PortUnit) :
    (s.modPort p f).engine = s.engine := rfl
@[simp] theorem State.modPort_ports (s : State) (p : Port) (f : PortUnit → PortUnit) :
    (s.modPort p f).ports = modifyAt s.ports p f := rfl
@[simp] theorem State.modPort_snapshots (s : State) (p : Port) (f : PortUnit → PortUnit) :
    (s.modPort p f).snapshots = s.snapshots := rfl
@[simp] theorem State.modPort_management (s : State) (p : Port) (f : PortUnit → PortUnit) :
    (s.modPort p f).management = s.management := rfl
@[simp] theorem State.modPort_streamer (s : State) (p : Port) (f : PortUnit → PortUnit) :
    (s.modPort p f).streamer = s.streamer := rfl
@[simp] theorem State.modPort_notice (s : State) (p : Port) (f : PortUnit → PortUnit) :
    (s.modPort p f).notice = s.notice := rfl
@[simp] theorem State.modPort_retention (s : State) (p : Port) (f : PortUnit → PortUnit) :
    (s.modPort p f).retention = s.retention := rfl
@[simp] theorem State.modPort_choices (s : State) (p : Port) (f : PortUnit → PortUnit) :
    (s.modPort p f).choices = s.choices := rfl
@[simp] theorem State.modPort_station (s : State) (p : Port) (f : PortUnit → PortUnit) (x : StationNo) :
    (s.modPort p f).station x = s.station x := rfl
@[simp] theorem State.modPort_due (s : State) (p : Port) (f : PortUnit → PortUnit) (x : Port) :
    (s.modPort p f).due x = s.due x := rfl
@[simp] theorem State.modPort_context (s : State) (p : Port) (f : PortUnit → PortUnit) (x : ContextNo) :
    (s.modPort p f).context x = s.context x := rfl
@[simp] theorem State.modPort_slot (s : State) (p : Port) (f : PortUnit → PortUnit) (x : SlotNo) :
    (s.modPort p f).slot x = s.slot x := rfl
@[simp] theorem State.modPort_ring (s : State) (p : Port) (f : PortUnit → PortUnit) (x : Port) :
    (s.modPort p f).ring x = s.ring x := rfl
@[simp] theorem State.modPort_stationRow (s : State) (p : Port) (f : PortUnit → PortUnit) (x : StationNo) :
    (s.modPort p f).stationRow x = s.stationRow x := rfl
@[simp] theorem State.modPort_portRow (s : State) (p : Port) (f : PortUnit → PortUnit) (x : Port) :
    (s.modPort p f).portRow x = s.portRow x := rfl
@[simp] theorem State.modPort_format (s : State) (p : Port) (f : PortUnit → PortUnit) (x : DescriptorNo) :
    (s.modPort p f).format x = s.format x := rfl
@[simp] theorem State.modPort_general (s : State) (p : Port) (f : PortUnit → PortUnit) :
    (s.modPort p f).general = s.general := rfl

/-! ### `modStation` -/

@[simp] theorem State.modStation_pending (s : State) (st : StationNo) (f : StationState → StationState) :
    (s.modStation st f).pending = s.pending := rfl
@[simp] theorem State.modStation_tables (s : State) (st : StationNo) (f : StationState → StationState) :
    (s.modStation st f).tables = s.tables := rfl
@[simp] theorem State.modStation_store (s : State) (st : StationNo) (f : StationState → StationState) :
    (s.modStation st f).store = s.store := rfl
@[simp] theorem State.modStation_clock (s : State) (st : StationNo) (f : StationState → StationState) :
    (s.modStation st f).clock = s.clock := rfl
@[simp] theorem State.modStation_survey (s : State) (st : StationNo) (f : StationState → StationState) :
    (s.modStation st f).survey = { s.survey with stations := modifyAt s.survey.stations st f } := rfl
@[simp] theorem State.modStation_engine (s : State) (st : StationNo) (f : StationState → StationState) :
    (s.modStation st f).engine = s.engine := rfl
@[simp] theorem State.modStation_ports (s : State) (st : StationNo) (f : StationState → StationState) :
    (s.modStation st f).ports = s.ports := rfl
@[simp] theorem State.modStation_snapshots (s : State) (st : StationNo) (f : StationState → StationState) :
    (s.modStation st f).snapshots = s.snapshots := rfl
@[simp] theorem State.modStation_management (s : State) (st : StationNo) (f : StationState → StationState) :
    (s.modStation st f).management = s.management := rfl
@[simp] theorem State.modStation_streamer (s : State) (st : StationNo) (f : StationState → StationState) :
    (s.modStation st f).streamer = s.streamer := rfl
@[simp] theorem State.modStation_notice (s : State) (st : StationNo) (f : StationState → StationState) :
    (s.modStation st f).notice = s.notice := rfl
@[simp] theorem State.modStation_retention (s : State) (st : StationNo) (f : StationState → StationState) :
    (s.modStation st f).retention = s.retention := rfl
@[simp] theorem State.modStation_choices (s : State) (st : StationNo) (f : StationState → StationState) :
    (s.modStation st f).choices = s.choices := rfl
@[simp] theorem State.modStation_port (s : State) (st : StationNo) (f : StationState → StationState) (x : Port) :
    (s.modStation st f).port x = s.port x := rfl
@[simp] theorem State.modStation_context (s : State) (st : StationNo) (f : StationState → StationState) (x : ContextNo) :
    (s.modStation st f).context x = s.context x := rfl
@[simp] theorem State.modStation_slot (s : State) (st : StationNo) (f : StationState → StationState) (x : SlotNo) :
    (s.modStation st f).slot x = s.slot x := rfl
@[simp] theorem State.modStation_ring (s : State) (st : StationNo) (f : StationState → StationState) (x : Port) :
    (s.modStation st f).ring x = s.ring x := rfl
@[simp] theorem State.modStation_stationRow (s : State) (st : StationNo) (f : StationState → StationState) (x : StationNo) :
    (s.modStation st f).stationRow x = s.stationRow x := rfl
@[simp] theorem State.modStation_portRow (s : State) (st : StationNo) (f : StationState → StationState) (x : Port) :
    (s.modStation st f).portRow x = s.portRow x := rfl
@[simp] theorem State.modStation_format (s : State) (st : StationNo) (f : StationState → StationState) (x : DescriptorNo) :
    (s.modStation st f).format x = s.format x := rfl
@[simp] theorem State.modStation_general (s : State) (st : StationNo) (f : StationState → StationState) :
    (s.modStation st f).general = s.general := rfl

/-! ### `modDue` -/

@[simp] theorem State.modDue_pending (s : State) (p : Port) (f : DueQueue → DueQueue) :
    (s.modDue p f).pending = s.pending := rfl
@[simp] theorem State.modDue_tables (s : State) (p : Port) (f : DueQueue → DueQueue) :
    (s.modDue p f).tables = s.tables := rfl
@[simp] theorem State.modDue_store (s : State) (p : Port) (f : DueQueue → DueQueue) :
    (s.modDue p f).store = s.store := rfl
@[simp] theorem State.modDue_clock (s : State) (p : Port) (f : DueQueue → DueQueue) :
    (s.modDue p f).clock = s.clock := rfl
@[simp] theorem State.modDue_survey (s : State) (p : Port) (f : DueQueue → DueQueue) :
    (s.modDue p f).survey = { s.survey with due := modifyAt s.survey.due p f } := rfl
@[simp] theorem State.modDue_engine (s : State) (p : Port) (f : DueQueue → DueQueue) :
    (s.modDue p f).engine = s.engine := rfl
@[simp] theorem State.modDue_ports (s : State) (p : Port) (f : DueQueue → DueQueue) :
    (s.modDue p f).ports = s.ports := rfl
@[simp] theorem State.modDue_snapshots (s : State) (p : Port) (f : DueQueue → DueQueue) :
    (s.modDue p f).snapshots = s.snapshots := rfl
@[simp] theorem State.modDue_management (s : State) (p : Port) (f : DueQueue → DueQueue) :
    (s.modDue p f).management = s.management := rfl
@[simp] theorem State.modDue_streamer (s : State) (p : Port) (f : DueQueue → DueQueue) :
    (s.modDue p f).streamer = s.streamer := rfl
@[simp] theorem State.modDue_notice (s : State) (p : Port) (f : DueQueue → DueQueue) :
    (s.modDue p f).notice = s.notice := rfl
@[simp] theorem State.modDue_retention (s : State) (p : Port) (f : DueQueue → DueQueue) :
    (s.modDue p f).retention = s.retention := rfl
@[simp] theorem State.modDue_choices (s : State) (p : Port) (f : DueQueue → DueQueue) :
    (s.modDue p f).choices = s.choices := rfl
@[simp] theorem State.modDue_port (s : State) (p : Port) (f : DueQueue → DueQueue) (x : Port) :
    (s.modDue p f).port x = s.port x := rfl
@[simp] theorem State.modDue_context (s : State) (p : Port) (f : DueQueue → DueQueue) (x : ContextNo) :
    (s.modDue p f).context x = s.context x := rfl
@[simp] theorem State.modDue_slot (s : State) (p : Port) (f : DueQueue → DueQueue) (x : SlotNo) :
    (s.modDue p f).slot x = s.slot x := rfl
@[simp] theorem State.modDue_ring (s : State) (p : Port) (f : DueQueue → DueQueue) (x : Port) :
    (s.modDue p f).ring x = s.ring x := rfl
@[simp] theorem State.modDue_stationRow (s : State) (p : Port) (f : DueQueue → DueQueue) (x : StationNo) :
    (s.modDue p f).stationRow x = s.stationRow x := rfl
@[simp] theorem State.modDue_portRow (s : State) (p : Port) (f : DueQueue → DueQueue) (x : Port) :
    (s.modDue p f).portRow x = s.portRow x := rfl
@[simp] theorem State.modDue_format (s : State) (p : Port) (f : DueQueue → DueQueue) (x : DescriptorNo) :
    (s.modDue p f).format x = s.format x := rfl
@[simp] theorem State.modDue_general (s : State) (p : Port) (f : DueQueue → DueQueue) :
    (s.modDue p f).general = s.general := rfl

/-! ### `modSurvey` -/

@[simp] theorem State.modSurvey_pending (s : State) (f : Survey → Survey) :
    (s.modSurvey f).pending = s.pending := rfl
@[simp] theorem State.modSurvey_tables (s : State) (f : Survey → Survey) :
    (s.modSurvey f).tables = s.tables := rfl
@[simp] theorem State.modSurvey_store (s : State) (f : Survey → Survey) :
    (s.modSurvey f).store = s.store := rfl
@[simp] theorem State.modSurvey_clock (s : State) (f : Survey → Survey) :
    (s.modSurvey f).clock = s.clock := rfl
@[simp] theorem State.modSurvey_survey (s : State) (f : Survey → Survey) :
    (s.modSurvey f).survey = f s.survey := rfl
@[simp] theorem State.modSurvey_engine (s : State) (f : Survey → Survey) :
    (s.modSurvey f).engine = s.engine := rfl
@[simp] theorem State.modSurvey_ports (s : State) (f : Survey → Survey) :
    (s.modSurvey f).ports = s.ports := rfl
@[simp] theorem State.modSurvey_snapshots (s : State) (f : Survey → Survey) :
    (s.modSurvey f).snapshots = s.snapshots := rfl
@[simp] theorem State.modSurvey_management (s : State) (f : Survey → Survey) :
    (s.modSurvey f).management = s.management := rfl
@[simp] theorem State.modSurvey_streamer (s : State) (f : Survey → Survey) :
    (s.modSurvey f).streamer = s.streamer := rfl
@[simp] theorem State.modSurvey_notice (s : State) (f : Survey → Survey) :
    (s.modSurvey f).notice = s.notice := rfl
@[simp] theorem State.modSurvey_retention (s : State) (f : Survey → Survey) :
    (s.modSurvey f).retention = s.retention := rfl
@[simp] theorem State.modSurvey_choices (s : State) (f : Survey → Survey) :
    (s.modSurvey f).choices = s.choices := rfl
@[simp] theorem State.modSurvey_port (s : State) (f : Survey → Survey) (x : Port) :
    (s.modSurvey f).port x = s.port x := rfl
@[simp] theorem State.modSurvey_context (s : State) (f : Survey → Survey) (x : ContextNo) :
    (s.modSurvey f).context x = s.context x := rfl
@[simp] theorem State.modSurvey_slot (s : State) (f : Survey → Survey) (x : SlotNo) :
    (s.modSurvey f).slot x = s.slot x := rfl
@[simp] theorem State.modSurvey_ring (s : State) (f : Survey → Survey) (x : Port) :
    (s.modSurvey f).ring x = s.ring x := rfl
@[simp] theorem State.modSurvey_stationRow (s : State) (f : Survey → Survey) (x : StationNo) :
    (s.modSurvey f).stationRow x = s.stationRow x := rfl
@[simp] theorem State.modSurvey_portRow (s : State) (f : Survey → Survey) (x : Port) :
    (s.modSurvey f).portRow x = s.portRow x := rfl
@[simp] theorem State.modSurvey_format (s : State) (f : Survey → Survey) (x : DescriptorNo) :
    (s.modSurvey f).format x = s.format x := rfl
@[simp] theorem State.modSurvey_general (s : State) (f : Survey → Survey) :
    (s.modSurvey f).general = s.general := rfl

/-! ### `setContext` -/

@[simp] theorem State.setContext_pending (s : State) (c : ContextNo) (d : Option Dialogue) :
    (s.setContext c d).pending = s.pending := rfl
@[simp] theorem State.setContext_tables (s : State) (c : ContextNo) (d : Option Dialogue) :
    (s.setContext c d).tables = s.tables := rfl
@[simp] theorem State.setContext_store (s : State) (c : ContextNo) (d : Option Dialogue) :
    (s.setContext c d).store = s.store := rfl
@[simp] theorem State.setContext_clock (s : State) (c : ContextNo) (d : Option Dialogue) :
    (s.setContext c d).clock = s.clock := rfl
@[simp] theorem State.setContext_survey (s : State) (c : ContextNo) (d : Option Dialogue) :
    (s.setContext c d).survey = s.survey := rfl
@[simp] theorem State.setContext_engine (s : State) (c : ContextNo) (d : Option Dialogue) :
    (s.setContext c d).engine = { s.engine with contexts := modifyAt s.engine.contexts c fun _ => d } := rfl
@[simp] theorem State.setContext_ports (s : State) (c : ContextNo) (d : Option Dialogue) :
    (s.setContext c d).ports = s.ports := rfl
@[simp] theorem State.setContext_snapshots (s : State) (c : ContextNo) (d : Option Dialogue) :
    (s.setContext c d).snapshots = s.snapshots := rfl
@[simp] theorem State.setContext_management (s : State) (c : ContextNo) (d : Option Dialogue) :
    (s.setContext c d).management = s.management := rfl
@[simp] theorem State.setContext_streamer (s : State) (c : ContextNo) (d : Option Dialogue) :
    (s.setContext c d).streamer = s.streamer := rfl
@[simp] theorem State.setContext_notice (s : State) (c : ContextNo) (d : Option Dialogue) :
    (s.setContext c d).notice = s.notice := rfl
@[simp] theorem State.setContext_retention (s : State) (c : ContextNo) (d : Option Dialogue) :
    (s.setContext c d).retention = s.retention := rfl
@[simp] theorem State.setContext_choices (s : State) (c : ContextNo) (d : Option Dialogue) :
    (s.setContext c d).choices = s.choices := rfl
@[simp] theorem State.setContext_port (s : State) (c : ContextNo) (d : Option Dialogue) (x : Port) :
    (s.setContext c d).port x = s.port x := rfl
@[simp] theorem State.setContext_station (s : State) (c : ContextNo) (d : Option Dialogue) (x : StationNo) :
    (s.setContext c d).station x = s.station x := rfl
@[simp] theorem State.setContext_due (s : State) (c : ContextNo) (d : Option Dialogue) (x : Port) :
    (s.setContext c d).due x = s.due x := rfl
@[simp] theorem State.setContext_slot (s : State) (c : ContextNo) (d : Option Dialogue) (x : SlotNo) :
    (s.setContext c d).slot x = s.slot x := rfl
@[simp] theorem State.setContext_ring (s : State) (c : ContextNo) (d : Option Dialogue) (x : Port) :
    (s.setContext c d).ring x = s.ring x := rfl
@[simp] theorem State.setContext_stationRow (s : State) (c : ContextNo) (d : Option Dialogue) (x : StationNo) :
    (s.setContext c d).stationRow x = s.stationRow x := rfl
@[simp] theorem State.setContext_portRow (s : State) (c : ContextNo) (d : Option Dialogue) (x : Port) :
    (s.setContext c d).portRow x = s.portRow x := rfl
@[simp] theorem State.setContext_format (s : State) (c : ContextNo) (d : Option Dialogue) (x : DescriptorNo) :
    (s.setContext c d).format x = s.format x := rfl
@[simp] theorem State.setContext_general (s : State) (c : ContextNo) (d : Option Dialogue) :
    (s.setContext c d).general = s.general := rfl

/-! ### `modDialogue` -/

@[simp] theorem State.modDialogue_pending (s : State) (c : ContextNo) (f : Dialogue → Dialogue) :
    (s.modDialogue c f).pending = s.pending := rfl
@[simp] theorem State.modDialogue_tables (s : State) (c : ContextNo) (f : Dialogue → Dialogue) :
    (s.modDialogue c f).tables = s.tables := rfl
@[simp] theorem State.modDialogue_store (s : State) (c : ContextNo) (f : Dialogue → Dialogue) :
    (s.modDialogue c f).store = s.store := rfl
@[simp] theorem State.modDialogue_clock (s : State) (c : ContextNo) (f : Dialogue → Dialogue) :
    (s.modDialogue c f).clock = s.clock := rfl
@[simp] theorem State.modDialogue_survey (s : State) (c : ContextNo) (f : Dialogue → Dialogue) :
    (s.modDialogue c f).survey = s.survey := rfl
@[simp] theorem State.modDialogue_engine (s : State) (c : ContextNo) (f : Dialogue → Dialogue) :
    (s.modDialogue c f).engine = { s.engine with contexts := modifyAt s.engine.contexts c fun _ => (s.context c).map f } := rfl
@[simp] theorem State.modDialogue_ports (s : State) (c : ContextNo) (f : Dialogue → Dialogue) :
    (s.modDialogue c f).ports = s.ports := rfl
@[simp] theorem State.modDialogue_snapshots (s : State) (c : ContextNo) (f : Dialogue → Dialogue) :
    (s.modDialogue c f).snapshots = s.snapshots := rfl
@[simp] theorem State.modDialogue_management (s : State) (c : ContextNo) (f : Dialogue → Dialogue) :
    (s.modDialogue c f).management = s.management := rfl
@[simp] theorem State.modDialogue_streamer (s : State) (c : ContextNo) (f : Dialogue → Dialogue) :
    (s.modDialogue c f).streamer = s.streamer := rfl
@[simp] theorem State.modDialogue_notice (s : State) (c : ContextNo) (f : Dialogue → Dialogue) :
    (s.modDialogue c f).notice = s.notice := rfl
@[simp] theorem State.modDialogue_retention (s : State) (c : ContextNo) (f : Dialogue → Dialogue) :
    (s.modDialogue c f).retention = s.retention := rfl
@[simp] theorem State.modDialogue_choices (s : State) (c : ContextNo) (f : Dialogue → Dialogue) :
    (s.modDialogue c f).choices = s.choices := rfl
@[simp] theorem State.modDialogue_port (s : State) (c : ContextNo) (f : Dialogue → Dialogue) (x : Port) :
    (s.modDialogue c f).port x = s.port x := rfl
@[simp] theorem State.modDialogue_station (s : State) (c : ContextNo) (f : Dialogue → Dialogue) (x : StationNo) :
    (s.modDialogue c f).station x = s.station x := rfl
@[simp] theorem State.modDialogue_due (s : State) (c : ContextNo) (f : Dialogue → Dialogue) (x : Port) :
    (s.modDialogue c f).due x = s.due x := rfl
@[simp] theorem State.modDialogue_slot (s : State) (c : ContextNo) (f : Dialogue → Dialogue) (x : SlotNo) :
    (s.modDialogue c f).slot x = s.slot x := rfl
@[simp] theorem State.modDialogue_ring (s : State) (c : ContextNo) (f : Dialogue → Dialogue) (x : Port) :
    (s.modDialogue c f).ring x = s.ring x := rfl
@[simp] theorem State.modDialogue_stationRow (s : State) (c : ContextNo) (f : Dialogue → Dialogue) (x : StationNo) :
    (s.modDialogue c f).stationRow x = s.stationRow x := rfl
@[simp] theorem State.modDialogue_portRow (s : State) (c : ContextNo) (f : Dialogue → Dialogue) (x : Port) :
    (s.modDialogue c f).portRow x = s.portRow x := rfl
@[simp] theorem State.modDialogue_format (s : State) (c : ContextNo) (f : Dialogue → Dialogue) (x : DescriptorNo) :
    (s.modDialogue c f).format x = s.format x := rfl
@[simp] theorem State.modDialogue_general (s : State) (c : ContextNo) (f : Dialogue → Dialogue) :
    (s.modDialogue c f).general = s.general := rfl

/-! ### `modStore` -/

@[simp] theorem State.modStore_pending (s : State) (f : Store → Store) :
    (s.modStore f).pending = s.pending := rfl
@[simp] theorem State.modStore_tables (s : State) (f : Store → Store) :
    (s.modStore f).tables = s.tables := rfl
@[simp] theorem State.modStore_store (s : State) (f : Store → Store) :
    (s.modStore f).store = f s.store := rfl
@[simp] theorem State.modStore_clock (s : State) (f : Store → Store) :
    (s.modStore f).clock = s.clock := rfl
@[simp] theorem State.modStore_survey (s : State) (f : Store → Store) :
    (s.modStore f).survey = s.survey := rfl
@[simp] theorem State.modStore_engine (s : State) (f : Store → Store) :
    (s.modStore f).engine = s.engine := rfl
@[simp] theorem State.modStore_ports (s : State) (f : Store → Store) :
    (s.modStore f).ports = s.ports := rfl
@[simp] theorem State.modStore_snapshots (s : State) (f : Store → Store) :
    (s.modStore f).snapshots = s.snapshots := rfl
@[simp] theorem State.modStore_management (s : State) (f : Store → Store) :
    (s.modStore f).management = s.management := rfl
@[simp] theorem State.modStore_streamer (s : State) (f : Store → Store) :
    (s.modStore f).streamer = s.streamer := rfl
@[simp] theorem State.modStore_notice (s : State) (f : Store → Store) :
    (s.modStore f).notice = s.notice := rfl
@[simp] theorem State.modStore_retention (s : State) (f : Store → Store) :
    (s.modStore f).retention = s.retention := rfl
@[simp] theorem State.modStore_choices (s : State) (f : Store → Store) :
    (s.modStore f).choices = s.choices := rfl
@[simp] theorem State.modStore_port (s : State) (f : Store → Store) (x : Port) :
    (s.modStore f).port x = s.port x := rfl
@[simp] theorem State.modStore_station (s : State) (f : Store → Store) (x : StationNo) :
    (s.modStore f).station x = s.station x := rfl
@[simp] theorem State.modStore_due (s : State) (f : Store → Store) (x : Port) :
    (s.modStore f).due x = s.due x := rfl
@[simp] theorem State.modStore_context (s : State) (f : Store → Store) (x : ContextNo) :
    (s.modStore f).context x = s.context x := rfl
@[simp] theorem State.modStore_slot (s : State) (f : Store → Store) (x : SlotNo) :
    (s.modStore f).slot x = s.slot x := rfl
@[simp] theorem State.modStore_ring (s : State) (f : Store → Store) (x : Port) :
    (s.modStore f).ring x = s.ring x := rfl
@[simp] theorem State.modStore_stationRow (s : State) (f : Store → Store) (x : StationNo) :
    (s.modStore f).stationRow x = s.stationRow x := rfl
@[simp] theorem State.modStore_portRow (s : State) (f : Store → Store) (x : Port) :
    (s.modStore f).portRow x = s.portRow x := rfl
@[simp] theorem State.modStore_format (s : State) (f : Store → Store) (x : DescriptorNo) :
    (s.modStore f).format x = s.format x := rfl
@[simp] theorem State.modStore_general (s : State) (f : Store → Store) :
    (s.modStore f).general = s.general := rfl

/-! ### `modEntries` -/

@[simp] theorem State.modEntries_pending (s : State) (q : Entry → Bool) (f : Entry → Entry) :
    (s.modEntries q f).pending = s.pending := rfl
@[simp] theorem State.modEntries_tables (s : State) (q : Entry → Bool) (f : Entry → Entry) :
    (s.modEntries q f).tables = s.tables := rfl
@[simp] theorem State.modEntries_store (s : State) (q : Entry → Bool) (f : Entry → Entry) :
    (s.modEntries q f).store = { s.store with entries := s.store.entries.map fun e => if q e then f e else e } := rfl
@[simp] theorem State.modEntries_clock (s : State) (q : Entry → Bool) (f : Entry → Entry) :
    (s.modEntries q f).clock = s.clock := rfl
@[simp] theorem State.modEntries_survey (s : State) (q : Entry → Bool) (f : Entry → Entry) :
    (s.modEntries q f).survey = s.survey := rfl
@[simp] theorem State.modEntries_engine (s : State) (q : Entry → Bool) (f : Entry → Entry) :
    (s.modEntries q f).engine = s.engine := rfl
@[simp] theorem State.modEntries_ports (s : State) (q : Entry → Bool) (f : Entry → Entry) :
    (s.modEntries q f).ports = s.ports := rfl
@[simp] theorem State.modEntries_snapshots (s : State) (q : Entry → Bool) (f : Entry → Entry) :
    (s.modEntries q f).snapshots = s.snapshots := rfl
@[simp] theorem State.modEntries_management (s : State) (q : Entry → Bool) (f : Entry → Entry) :
    (s.modEntries q f).management = s.management := rfl
@[simp] theorem State.modEntries_streamer (s : State) (q : Entry → Bool) (f : Entry → Entry) :
    (s.modEntries q f).streamer = s.streamer := rfl
@[simp] theorem State.modEntries_notice (s : State) (q : Entry → Bool) (f : Entry → Entry) :
    (s.modEntries q f).notice = s.notice := rfl
@[simp] theorem State.modEntries_retention (s : State) (q : Entry → Bool) (f : Entry → Entry) :
    (s.modEntries q f).retention = s.retention := rfl
@[simp] theorem State.modEntries_choices (s : State) (q : Entry → Bool) (f : Entry → Entry) :
    (s.modEntries q f).choices = s.choices := rfl
@[simp] theorem State.modEntries_port (s : State) (q : Entry → Bool) (f : Entry → Entry) (x : Port) :
    (s.modEntries q f).port x = s.port x := rfl
@[simp] theorem State.modEntries_station (s : State) (q : Entry → Bool) (f : Entry → Entry) (x : StationNo) :
    (s.modEntries q f).station x = s.station x := rfl
@[simp] theorem State.modEntries_due (s : State) (q : Entry → Bool) (f : Entry → Entry) (x : Port) :
    (s.modEntries q f).due x = s.due x := rfl
@[simp] theorem State.modEntries_context (s : State) (q : Entry → Bool) (f : Entry → Entry) (x : ContextNo) :
    (s.modEntries q f).context x = s.context x := rfl
@[simp] theorem State.modEntries_slot (s : State) (q : Entry → Bool) (f : Entry → Entry) (x : SlotNo) :
    (s.modEntries q f).slot x = s.slot x := rfl
@[simp] theorem State.modEntries_ring (s : State) (q : Entry → Bool) (f : Entry → Entry) (x : Port) :
    (s.modEntries q f).ring x = s.ring x := rfl
@[simp] theorem State.modEntries_stationRow (s : State) (q : Entry → Bool) (f : Entry → Entry) (x : StationNo) :
    (s.modEntries q f).stationRow x = s.stationRow x := rfl
@[simp] theorem State.modEntries_portRow (s : State) (q : Entry → Bool) (f : Entry → Entry) (x : Port) :
    (s.modEntries q f).portRow x = s.portRow x := rfl
@[simp] theorem State.modEntries_format (s : State) (q : Entry → Bool) (f : Entry → Entry) (x : DescriptorNo) :
    (s.modEntries q f).format x = s.format x := rfl
@[simp] theorem State.modEntries_general (s : State) (q : Entry → Bool) (f : Entry → Entry) :
    (s.modEntries q f).general = s.general := rfl

/-! ### `modClock` -/

@[simp] theorem State.modClock_pending (s : State) (f : Clock → Clock) :
    (s.modClock f).pending = s.pending := rfl
@[simp] theorem State.modClock_tables (s : State) (f : Clock → Clock) :
    (s.modClock f).tables = s.tables := rfl
@[simp] theorem State.modClock_store (s : State) (f : Clock → Clock) :
    (s.modClock f).store = s.store := rfl
@[simp] theorem State.modClock_clock (s : State) (f : Clock → Clock) :
    (s.modClock f).clock = f s.clock := rfl
@[simp] theorem State.modClock_survey (s : State) (f : Clock → Clock) :
    (s.modClock f).survey = s.survey := rfl
@[simp] theorem State.modClock_engine (s : State) (f : Clock → Clock) :
    (s.modClock f).engine = s.engine := rfl
@[simp] theorem State.modClock_ports (s : State) (f : Clock → Clock) :
    (s.modClock f).ports = s.ports := rfl
@[simp] theorem State.modClock_snapshots (s : State) (f : Clock → Clock) :
    (s.modClock f).snapshots = s.snapshots := rfl
@[simp] theorem State.modClock_management (s : State) (f : Clock → Clock) :
    (s.modClock f).management = s.management := rfl
@[simp] theorem State.modClock_streamer (s : State) (f : Clock → Clock) :
    (s.modClock f).streamer = s.streamer := rfl
@[simp] theorem State.modClock_notice (s : State) (f : Clock → Clock) :
    (s.modClock f).notice = s.notice := rfl
@[simp] theorem State.modClock_retention (s : State) (f : Clock → Clock) :
    (s.modClock f).retention = s.retention := rfl
@[simp] theorem State.modClock_choices (s : State) (f : Clock → Clock) :
    (s.modClock f).choices = s.choices := rfl
@[simp] theorem State.modClock_port (s : State) (f : Clock → Clock) (x : Port) :
    (s.modClock f).port x = s.port x := rfl
@[simp] theorem State.modClock_station (s : State) (f : Clock → Clock) (x : StationNo) :
    (s.modClock f).station x = s.station x := rfl
@[simp] theorem State.modClock_due (s : State) (f : Clock → Clock) (x : Port) :
    (s.modClock f).due x = s.due x := rfl
@[simp] theorem State.modClock_context (s : State) (f : Clock → Clock) (x : ContextNo) :
    (s.modClock f).context x = s.context x := rfl
@[simp] theorem State.modClock_slot (s : State) (f : Clock → Clock) (x : SlotNo) :
    (s.modClock f).slot x = s.slot x := rfl
@[simp] theorem State.modClock_ring (s : State) (f : Clock → Clock) (x : Port) :
    (s.modClock f).ring x = s.ring x := rfl
@[simp] theorem State.modClock_stationRow (s : State) (f : Clock → Clock) (x : StationNo) :
    (s.modClock f).stationRow x = s.stationRow x := rfl
@[simp] theorem State.modClock_portRow (s : State) (f : Clock → Clock) (x : Port) :
    (s.modClock f).portRow x = s.portRow x := rfl
@[simp] theorem State.modClock_format (s : State) (f : Clock → Clock) (x : DescriptorNo) :
    (s.modClock f).format x = s.format x := rfl
@[simp] theorem State.modClock_general (s : State) (f : Clock → Clock) :
    (s.modClock f).general = s.general := rfl

/-! ### `modTables` -/

@[simp] theorem State.modTables_pending (s : State) (f : Tables → Tables) :
    (s.modTables f).pending = s.pending := rfl
@[simp] theorem State.modTables_tables (s : State) (f : Tables → Tables) :
    (s.modTables f).tables = f s.tables := rfl
@[simp] theorem State.modTables_store (s : State) (f : Tables → Tables) :
    (s.modTables f).store = s.store := rfl
@[simp] theorem State.modTables_clock (s : State) (f : Tables → Tables) :
    (s.modTables f).clock = s.clock := rfl
@[simp] theorem State.modTables_survey (s : State) (f : Tables → Tables) :
    (s.modTables f).survey = s.survey := rfl
@[simp] theorem State.modTables_engine (s : State) (f : Tables → Tables) :
    (s.modTables f).engine = s.engine := rfl
@[simp] theorem State.modTables_ports (s : State) (f : Tables → Tables) :
    (s.modTables f).ports = s.ports := rfl
@[simp] theorem State.modTables_snapshots (s : State) (f : Tables → Tables) :
    (s.modTables f).snapshots = s.snapshots := rfl
@[simp] theorem State.modTables_management (s : State) (f : Tables → Tables) :
    (s.modTables f).management = s.management := rfl
@[simp] theorem State.modTables_streamer (s : State) (f : Tables → Tables) :
    (s.modTables f).streamer = s.streamer := rfl
@[simp] theorem State.modTables_notice (s : State) (f : Tables → Tables) :
    (s.modTables f).notice = s.notice := rfl
@[simp] theorem State.modTables_retention (s : State) (f : Tables → Tables) :
    (s.modTables f).retention = s.retention := rfl
@[simp] theorem State.modTables_choices (s : State) (f : Tables → Tables) :
    (s.modTables f).choices = s.choices := rfl
@[simp] theorem State.modTables_port (s : State) (f : Tables → Tables) (x : Port) :
    (s.modTables f).port x = s.port x := rfl
@[simp] theorem State.modTables_station (s : State) (f : Tables → Tables) (x : StationNo) :
    (s.modTables f).station x = s.station x := rfl
@[simp] theorem State.modTables_due (s : State) (f : Tables → Tables) (x : Port) :
    (s.modTables f).due x = s.due x := rfl
@[simp] theorem State.modTables_context (s : State) (f : Tables → Tables) (x : ContextNo) :
    (s.modTables f).context x = s.context x := rfl
@[simp] theorem State.modTables_slot (s : State) (f : Tables → Tables) (x : SlotNo) :
    (s.modTables f).slot x = s.slot x := rfl
@[simp] theorem State.modTables_ring (s : State) (f : Tables → Tables) (x : Port) :
    (s.modTables f).ring x = s.ring x := rfl

/-! ### `modSlot` -/

@[simp] theorem State.modSlot_pending (s : State) (i : SlotNo) (f : Slot → Slot) :
    (s.modSlot i f).pending = s.pending := rfl
@[simp] theorem State.modSlot_tables (s : State) (i : SlotNo) (f : Slot → Slot) :
    (s.modSlot i f).tables = s.tables := rfl
@[simp] theorem State.modSlot_store (s : State) (i : SlotNo) (f : Slot → Slot) :
    (s.modSlot i f).store = s.store := rfl
@[simp] theorem State.modSlot_clock (s : State) (i : SlotNo) (f : Slot → Slot) :
    (s.modSlot i f).clock = s.clock := rfl
@[simp] theorem State.modSlot_survey (s : State) (i : SlotNo) (f : Slot → Slot) :
    (s.modSlot i f).survey = s.survey := rfl
@[simp] theorem State.modSlot_engine (s : State) (i : SlotNo) (f : Slot → Slot) :
    (s.modSlot i f).engine = s.engine := rfl
@[simp] theorem State.modSlot_ports (s : State) (i : SlotNo) (f : Slot → Slot) :
    (s.modSlot i f).ports = s.ports := rfl
@[simp] theorem State.modSlot_snapshots (s : State) (i : SlotNo) (f : Slot → Slot) :
    (s.modSlot i f).snapshots = { s.snapshots with slots := modifyAt s.snapshots.slots i f } := rfl
@[simp] theorem State.modSlot_management (s : State) (i : SlotNo) (f : Slot → Slot) :
    (s.modSlot i f).management = s.management := rfl
@[simp] theorem State.modSlot_streamer (s : State) (i : SlotNo) (f : Slot → Slot) :
    (s.modSlot i f).streamer = s.streamer := rfl
@[simp] theorem State.modSlot_notice (s : State) (i : SlotNo) (f : Slot → Slot) :
    (s.modSlot i f).notice = s.notice := rfl
@[simp] theorem State.modSlot_retention (s : State) (i : SlotNo) (f : Slot → Slot) :
    (s.modSlot i f).retention = s.retention := rfl
@[simp] theorem State.modSlot_choices (s : State) (i : SlotNo) (f : Slot → Slot) :
    (s.modSlot i f).choices = s.choices := rfl
@[simp] theorem State.modSlot_port (s : State) (i : SlotNo) (f : Slot → Slot) (x : Port) :
    (s.modSlot i f).port x = s.port x := rfl
@[simp] theorem State.modSlot_station (s : State) (i : SlotNo) (f : Slot → Slot) (x : StationNo) :
    (s.modSlot i f).station x = s.station x := rfl
@[simp] theorem State.modSlot_due (s : State) (i : SlotNo) (f : Slot → Slot) (x : Port) :
    (s.modSlot i f).due x = s.due x := rfl
@[simp] theorem State.modSlot_context (s : State) (i : SlotNo) (f : Slot → Slot) (x : ContextNo) :
    (s.modSlot i f).context x = s.context x := rfl
@[simp] theorem State.modSlot_stationRow (s : State) (i : SlotNo) (f : Slot → Slot) (x : StationNo) :
    (s.modSlot i f).stationRow x = s.stationRow x := rfl
@[simp] theorem State.modSlot_portRow (s : State) (i : SlotNo) (f : Slot → Slot) (x : Port) :
    (s.modSlot i f).portRow x = s.portRow x := rfl
@[simp] theorem State.modSlot_format (s : State) (i : SlotNo) (f : Slot → Slot) (x : DescriptorNo) :
    (s.modSlot i f).format x = s.format x := rfl
@[simp] theorem State.modSlot_general (s : State) (i : SlotNo) (f : Slot → Slot) :
    (s.modSlot i f).general = s.general := rfl

/-! ### `modSnapshots` -/

@[simp] theorem State.modSnapshots_pending (s : State) (f : SnapshotUnit → SnapshotUnit) :
    (s.modSnapshots f).pending = s.pending := rfl
@[simp] theorem State.modSnapshots_tables (s : State) (f : SnapshotUnit → SnapshotUnit) :
    (s.modSnapshots f).tables = s.tables := rfl
@[simp] theorem State.modSnapshots_store (s : State) (f : SnapshotUnit → SnapshotUnit) :
    (s.modSnapshots f).store = s.store := rfl
@[simp] theorem State.modSnapshots_clock (s : State) (f : SnapshotUnit → SnapshotUnit) :
    (s.modSnapshots f).clock = s.clock := rfl
@[simp] theorem State.modSnapshots_survey (s : State) (f : SnapshotUnit → SnapshotUnit) :
    (s.modSnapshots f).survey = s.survey := rfl
@[simp] theorem State.modSnapshots_engine (s : State) (f : SnapshotUnit → SnapshotUnit) :
    (s.modSnapshots f).engine = s.engine := rfl
@[simp] theorem State.modSnapshots_ports (s : State) (f : SnapshotUnit → SnapshotUnit) :
    (s.modSnapshots f).ports = s.ports := rfl
@[simp] theorem State.modSnapshots_snapshots (s : State) (f : SnapshotUnit → SnapshotUnit) :
    (s.modSnapshots f).snapshots = f s.snapshots := rfl
@[simp] theorem State.modSnapshots_management (s : State) (f : SnapshotUnit → SnapshotUnit) :
    (s.modSnapshots f).management = s.management := rfl
@[simp] theorem State.modSnapshots_streamer (s : State) (f : SnapshotUnit → SnapshotUnit) :
    (s.modSnapshots f).streamer = s.streamer := rfl
@[simp] theorem State.modSnapshots_notice (s : State) (f : SnapshotUnit → SnapshotUnit) :
    (s.modSnapshots f).notice = s.notice := rfl
@[simp] theorem State.modSnapshots_retention (s : State) (f : SnapshotUnit → SnapshotUnit) :
    (s.modSnapshots f).retention = s.retention := rfl
@[simp] theorem State.modSnapshots_choices (s : State) (f : SnapshotUnit → SnapshotUnit) :
    (s.modSnapshots f).choices = s.choices := rfl
@[simp] theorem State.modSnapshots_port (s : State) (f : SnapshotUnit → SnapshotUnit) (x : Port) :
    (s.modSnapshots f).port x = s.port x := rfl
@[simp] theorem State.modSnapshots_station (s : State) (f : SnapshotUnit → SnapshotUnit) (x : StationNo) :
    (s.modSnapshots f).station x = s.station x := rfl
@[simp] theorem State.modSnapshots_due (s : State) (f : SnapshotUnit → SnapshotUnit) (x : Port) :
    (s.modSnapshots f).due x = s.due x := rfl
@[simp] theorem State.modSnapshots_context (s : State) (f : SnapshotUnit → SnapshotUnit) (x : ContextNo) :
    (s.modSnapshots f).context x = s.context x := rfl
@[simp] theorem State.modSnapshots_stationRow (s : State) (f : SnapshotUnit → SnapshotUnit) (x : StationNo) :
    (s.modSnapshots f).stationRow x = s.stationRow x := rfl
@[simp] theorem State.modSnapshots_portRow (s : State) (f : SnapshotUnit → SnapshotUnit) (x : Port) :
    (s.modSnapshots f).portRow x = s.portRow x := rfl
@[simp] theorem State.modSnapshots_format (s : State) (f : SnapshotUnit → SnapshotUnit) (x : DescriptorNo) :
    (s.modSnapshots f).format x = s.format x := rfl
@[simp] theorem State.modSnapshots_general (s : State) (f : SnapshotUnit → SnapshotUnit) :
    (s.modSnapshots f).general = s.general := rfl

/-! ### `modManagement` -/

@[simp] theorem State.modManagement_pending (s : State) (f : Management → Management) :
    (s.modManagement f).pending = s.pending := rfl
@[simp] theorem State.modManagement_tables (s : State) (f : Management → Management) :
    (s.modManagement f).tables = s.tables := rfl
@[simp] theorem State.modManagement_store (s : State) (f : Management → Management) :
    (s.modManagement f).store = s.store := rfl
@[simp] theorem State.modManagement_clock (s : State) (f : Management → Management) :
    (s.modManagement f).clock = s.clock := rfl
@[simp] theorem State.modManagement_survey (s : State) (f : Management → Management) :
    (s.modManagement f).survey = s.survey := rfl
@[simp] theorem State.modManagement_engine (s : State) (f : Management → Management) :
    (s.modManagement f).engine = s.engine := rfl
@[simp] theorem State.modManagement_ports (s : State) (f : Management → Management) :
    (s.modManagement f).ports = s.ports := rfl
@[simp] theorem State.modManagement_snapshots (s : State) (f : Management → Management) :
    (s.modManagement f).snapshots = s.snapshots := rfl
@[simp] theorem State.modManagement_management (s : State) (f : Management → Management) :
    (s.modManagement f).management = f s.management := rfl
@[simp] theorem State.modManagement_streamer (s : State) (f : Management → Management) :
    (s.modManagement f).streamer = s.streamer := rfl
@[simp] theorem State.modManagement_notice (s : State) (f : Management → Management) :
    (s.modManagement f).notice = s.notice := rfl
@[simp] theorem State.modManagement_retention (s : State) (f : Management → Management) :
    (s.modManagement f).retention = s.retention := rfl
@[simp] theorem State.modManagement_choices (s : State) (f : Management → Management) :
    (s.modManagement f).choices = s.choices := rfl
@[simp] theorem State.modManagement_port (s : State) (f : Management → Management) (x : Port) :
    (s.modManagement f).port x = s.port x := rfl
@[simp] theorem State.modManagement_station (s : State) (f : Management → Management) (x : StationNo) :
    (s.modManagement f).station x = s.station x := rfl
@[simp] theorem State.modManagement_due (s : State) (f : Management → Management) (x : Port) :
    (s.modManagement f).due x = s.due x := rfl
@[simp] theorem State.modManagement_context (s : State) (f : Management → Management) (x : ContextNo) :
    (s.modManagement f).context x = s.context x := rfl
@[simp] theorem State.modManagement_slot (s : State) (f : Management → Management) (x : SlotNo) :
    (s.modManagement f).slot x = s.slot x := rfl
@[simp] theorem State.modManagement_ring (s : State) (f : Management → Management) (x : Port) :
    (s.modManagement f).ring x = s.ring x := rfl
@[simp] theorem State.modManagement_stationRow (s : State) (f : Management → Management) (x : StationNo) :
    (s.modManagement f).stationRow x = s.stationRow x := rfl
@[simp] theorem State.modManagement_portRow (s : State) (f : Management → Management) (x : Port) :
    (s.modManagement f).portRow x = s.portRow x := rfl
@[simp] theorem State.modManagement_format (s : State) (f : Management → Management) (x : DescriptorNo) :
    (s.modManagement f).format x = s.format x := rfl
@[simp] theorem State.modManagement_general (s : State) (f : Management → Management) :
    (s.modManagement f).general = s.general := rfl

/-! ### `modStreamer` -/

@[simp] theorem State.modStreamer_pending (s : State) (f : Streamer → Streamer) :
    (s.modStreamer f).pending = s.pending := rfl
@[simp] theorem State.modStreamer_tables (s : State) (f : Streamer → Streamer) :
    (s.modStreamer f).tables = s.tables := rfl
@[simp] theorem State.modStreamer_store (s : State) (f : Streamer → Streamer) :
    (s.modStreamer f).store = s.store := rfl
@[simp] theorem State.modStreamer_clock (s : State) (f : Streamer → Streamer) :
    (s.modStreamer f).clock = s.clock := rfl
@[simp] theorem State.modStreamer_survey (s : State) (f : Streamer → Streamer) :
    (s.modStreamer f).survey = s.survey := rfl
@[simp] theorem State.modStreamer_engine (s : State) (f : Streamer → Streamer) :
    (s.modStreamer f).engine = s.engine := rfl
@[simp] theorem State.modStreamer_ports (s : State) (f : Streamer → Streamer) :
    (s.modStreamer f).ports = s.ports := rfl
@[simp] theorem State.modStreamer_snapshots (s : State) (f : Streamer → Streamer) :
    (s.modStreamer f).snapshots = s.snapshots := rfl
@[simp] theorem State.modStreamer_management (s : State) (f : Streamer → Streamer) :
    (s.modStreamer f).management = s.management := rfl
@[simp] theorem State.modStreamer_streamer (s : State) (f : Streamer → Streamer) :
    (s.modStreamer f).streamer = f s.streamer := rfl
@[simp] theorem State.modStreamer_notice (s : State) (f : Streamer → Streamer) :
    (s.modStreamer f).notice = s.notice := rfl
@[simp] theorem State.modStreamer_retention (s : State) (f : Streamer → Streamer) :
    (s.modStreamer f).retention = s.retention := rfl
@[simp] theorem State.modStreamer_choices (s : State) (f : Streamer → Streamer) :
    (s.modStreamer f).choices = s.choices := rfl
@[simp] theorem State.modStreamer_port (s : State) (f : Streamer → Streamer) (x : Port) :
    (s.modStreamer f).port x = s.port x := rfl
@[simp] theorem State.modStreamer_station (s : State) (f : Streamer → Streamer) (x : StationNo) :
    (s.modStreamer f).station x = s.station x := rfl
@[simp] theorem State.modStreamer_due (s : State) (f : Streamer → Streamer) (x : Port) :
    (s.modStreamer f).due x = s.due x := rfl
@[simp] theorem State.modStreamer_context (s : State) (f : Streamer → Streamer) (x : ContextNo) :
    (s.modStreamer f).context x = s.context x := rfl
@[simp] theorem State.modStreamer_slot (s : State) (f : Streamer → Streamer) (x : SlotNo) :
    (s.modStreamer f).slot x = s.slot x := rfl
@[simp] theorem State.modStreamer_ring (s : State) (f : Streamer → Streamer) (x : Port) :
    (s.modStreamer f).ring x = s.ring x := rfl
@[simp] theorem State.modStreamer_stationRow (s : State) (f : Streamer → Streamer) (x : StationNo) :
    (s.modStreamer f).stationRow x = s.stationRow x := rfl
@[simp] theorem State.modStreamer_portRow (s : State) (f : Streamer → Streamer) (x : Port) :
    (s.modStreamer f).portRow x = s.portRow x := rfl
@[simp] theorem State.modStreamer_format (s : State) (f : Streamer → Streamer) (x : DescriptorNo) :
    (s.modStreamer f).format x = s.format x := rfl
@[simp] theorem State.modStreamer_general (s : State) (f : Streamer → Streamer) :
    (s.modStreamer f).general = s.general := rfl

/-! ### `modNotice` -/

@[simp] theorem State.modNotice_pending (s : State) (f : NoticeUnit → NoticeUnit) :
    (s.modNotice f).pending = s.pending := rfl
@[simp] theorem State.modNotice_tables (s : State) (f : NoticeUnit → NoticeUnit) :
    (s.modNotice f).tables = s.tables := rfl
@[simp] theorem State.modNotice_store (s : State) (f : NoticeUnit → NoticeUnit) :
    (s.modNotice f).store = s.store := rfl
@[simp] theorem State.modNotice_clock (s : State) (f : NoticeUnit → NoticeUnit) :
    (s.modNotice f).clock = s.clock := rfl
@[simp] theorem State.modNotice_survey (s : State) (f : NoticeUnit → NoticeUnit) :
    (s.modNotice f).survey = s.survey := rfl
@[simp] theorem State.modNotice_engine (s : State) (f : NoticeUnit → NoticeUnit) :
    (s.modNotice f).engine = s.engine := rfl
@[simp] theorem State.modNotice_ports (s : State) (f : NoticeUnit → NoticeUnit) :
    (s.modNotice f).ports = s.ports := rfl
@[simp] theorem State.modNotice_snapshots (s : State) (f : NoticeUnit → NoticeUnit) :
    (s.modNotice f).snapshots = s.snapshots := rfl
@[simp] theorem State.modNotice_management (s : State) (f : NoticeUnit → NoticeUnit) :
    (s.modNotice f).management = s.management := rfl
@[simp] theorem State.modNotice_streamer (s : State) (f : NoticeUnit → NoticeUnit) :
    (s.modNotice f).streamer = s.streamer := rfl
@[simp] theorem State.modNotice_notice (s : State) (f : NoticeUnit → NoticeUnit) :
    (s.modNotice f).notice = f s.notice := rfl
@[simp] theorem State.modNotice_retention (s : State) (f : NoticeUnit → NoticeUnit) :
    (s.modNotice f).retention = s.retention := rfl
@[simp] theorem State.modNotice_choices (s : State) (f : NoticeUnit → NoticeUnit) :
    (s.modNotice f).choices = s.choices := rfl
@[simp] theorem State.modNotice_port (s : State) (f : NoticeUnit → NoticeUnit) (x : Port) :
    (s.modNotice f).port x = s.port x := rfl
@[simp] theorem State.modNotice_station (s : State) (f : NoticeUnit → NoticeUnit) (x : StationNo) :
    (s.modNotice f).station x = s.station x := rfl
@[simp] theorem State.modNotice_due (s : State) (f : NoticeUnit → NoticeUnit) (x : Port) :
    (s.modNotice f).due x = s.due x := rfl
@[simp] theorem State.modNotice_context (s : State) (f : NoticeUnit → NoticeUnit) (x : ContextNo) :
    (s.modNotice f).context x = s.context x := rfl
@[simp] theorem State.modNotice_slot (s : State) (f : NoticeUnit → NoticeUnit) (x : SlotNo) :
    (s.modNotice f).slot x = s.slot x := rfl
@[simp] theorem State.modNotice_ring (s : State) (f : NoticeUnit → NoticeUnit) (x : Port) :
    (s.modNotice f).ring x = s.ring x := rfl
@[simp] theorem State.modNotice_stationRow (s : State) (f : NoticeUnit → NoticeUnit) (x : StationNo) :
    (s.modNotice f).stationRow x = s.stationRow x := rfl
@[simp] theorem State.modNotice_portRow (s : State) (f : NoticeUnit → NoticeUnit) (x : Port) :
    (s.modNotice f).portRow x = s.portRow x := rfl
@[simp] theorem State.modNotice_format (s : State) (f : NoticeUnit → NoticeUnit) (x : DescriptorNo) :
    (s.modNotice f).format x = s.format x := rfl
@[simp] theorem State.modNotice_general (s : State) (f : NoticeUnit → NoticeUnit) :
    (s.modNotice f).general = s.general := rfl

/-! ### `modRetention` -/

@[simp] theorem State.modRetention_pending (s : State) (f : Retention → Retention) :
    (s.modRetention f).pending = s.pending := rfl
@[simp] theorem State.modRetention_tables (s : State) (f : Retention → Retention) :
    (s.modRetention f).tables = s.tables := rfl
@[simp] theorem State.modRetention_store (s : State) (f : Retention → Retention) :
    (s.modRetention f).store = s.store := rfl
@[simp] theorem State.modRetention_clock (s : State) (f : Retention → Retention) :
    (s.modRetention f).clock = s.clock := rfl
@[simp] theorem State.modRetention_survey (s : State) (f : Retention → Retention) :
    (s.modRetention f).survey = s.survey := rfl
@[simp] theorem State.modRetention_engine (s : State) (f : Retention → Retention) :
    (s.modRetention f).engine = s.engine := rfl
@[simp] theorem State.modRetention_ports (s : State) (f : Retention → Retention) :
    (s.modRetention f).ports = s.ports := rfl
@[simp] theorem State.modRetention_snapshots (s : State) (f : Retention → Retention) :
    (s.modRetention f).snapshots = s.snapshots := rfl
@[simp] theorem State.modRetention_management (s : State) (f : Retention → Retention) :
    (s.modRetention f).management = s.management := rfl
@[simp] theorem State.modRetention_streamer (s : State) (f : Retention → Retention) :
    (s.modRetention f).streamer = s.streamer := rfl
@[simp] theorem State.modRetention_notice (s : State) (f : Retention → Retention) :
    (s.modRetention f).notice = s.notice := rfl
@[simp] theorem State.modRetention_retention (s : State) (f : Retention → Retention) :
    (s.modRetention f).retention = f s.retention := rfl
@[simp] theorem State.modRetention_choices (s : State) (f : Retention → Retention) :
    (s.modRetention f).choices = s.choices := rfl
@[simp] theorem State.modRetention_port (s : State) (f : Retention → Retention) (x : Port) :
    (s.modRetention f).port x = s.port x := rfl
@[simp] theorem State.modRetention_station (s : State) (f : Retention → Retention) (x : StationNo) :
    (s.modRetention f).station x = s.station x := rfl
@[simp] theorem State.modRetention_due (s : State) (f : Retention → Retention) (x : Port) :
    (s.modRetention f).due x = s.due x := rfl
@[simp] theorem State.modRetention_context (s : State) (f : Retention → Retention) (x : ContextNo) :
    (s.modRetention f).context x = s.context x := rfl
@[simp] theorem State.modRetention_slot (s : State) (f : Retention → Retention) (x : SlotNo) :
    (s.modRetention f).slot x = s.slot x := rfl
@[simp] theorem State.modRetention_ring (s : State) (f : Retention → Retention) (x : Port) :
    (s.modRetention f).ring x = s.ring x := rfl
@[simp] theorem State.modRetention_stationRow (s : State) (f : Retention → Retention) (x : StationNo) :
    (s.modRetention f).stationRow x = s.stationRow x := rfl
@[simp] theorem State.modRetention_portRow (s : State) (f : Retention → Retention) (x : Port) :
    (s.modRetention f).portRow x = s.portRow x := rfl
@[simp] theorem State.modRetention_format (s : State) (f : Retention → Retention) (x : DescriptorNo) :
    (s.modRetention f).format x = s.format x := rfl
@[simp] theorem State.modRetention_general (s : State) (f : Retention → Retention) :
    (s.modRetention f).general = s.general := rfl

/-! ### `choose` -/

@[simp] theorem State.choose_pending (s : State) : s.choose.pending = s.pending := rfl
@[simp] theorem State.choose_tables (s : State) : s.choose.tables = s.tables := rfl
@[simp] theorem State.choose_store (s : State) : s.choose.store = s.store := rfl
@[simp] theorem State.choose_clock (s : State) : s.choose.clock = s.clock := rfl
@[simp] theorem State.choose_survey (s : State) : s.choose.survey = s.survey := rfl
@[simp] theorem State.choose_engine (s : State) : s.choose.engine = s.engine := rfl
@[simp] theorem State.choose_ports (s : State) : s.choose.ports = s.ports := rfl
@[simp] theorem State.choose_snapshots (s : State) : s.choose.snapshots = s.snapshots := rfl
@[simp] theorem State.choose_management (s : State) : s.choose.management = s.management := rfl
@[simp] theorem State.choose_streamer (s : State) : s.choose.streamer = s.streamer := rfl
@[simp] theorem State.choose_notice (s : State) : s.choose.notice = s.notice := rfl
@[simp] theorem State.choose_retention (s : State) : s.choose.retention = s.retention := rfl
@[simp] theorem State.choose_choices (s : State) : s.choose.choices = s.choices + 1 := rfl

/-! ### Readings through the changes of their own component -/

@[simp] theorem State.modPort_port (s : State) (p q : Port) (f : PortUnit → PortUnit) :
    (s.modPort p f).port q = if q = p then f (s.port q) else s.port q := by
  simp [State.port]

@[simp] theorem State.modStation_station (s : State) (st x : StationNo) (f : StationState → StationState) :
    (s.modStation st f).station x = if x = st then f (s.station x) else s.station x := by
  simp [State.station]

@[simp] theorem State.modStation_due (s : State) (st : StationNo) (f : StationState → StationState) (p : Port) :
    (s.modStation st f).due p = s.due p := rfl

@[simp] theorem State.modDue_due (s : State) (p q : Port) (f : DueQueue → DueQueue) :
    (s.modDue p f).due q = if q = p then f (s.due q) else s.due q := by
  simp [State.due]

@[simp] theorem State.modDue_station (s : State) (p : Port) (f : DueQueue → DueQueue) (st : StationNo) :
    (s.modDue p f).station st = s.station st := rfl

@[simp] theorem State.setContext_context (s : State) (c c' : ContextNo) (d : Option Dialogue) :
    (s.setContext c d).context c' = if c' = c then d else s.context c' := by
  simp [State.context]

@[simp] theorem State.modDialogue_context (s : State) (c c' : ContextNo) (f : Dialogue → Dialogue) :
    (s.modDialogue c f).context c' = if c' = c then (s.context c').map f else s.context c' := by
  rw [State.modDialogue, State.setContext_context]
  split
  · next h => subst h; rfl
  · rfl

@[simp] theorem State.modSlot_slot (s : State) (i j : SlotNo) (f : Slot → Slot) :
    (s.modSlot i f).slot j = if j = i then f (s.slot j) else s.slot j := by
  simp [State.slot]

@[simp] theorem State.modSlot_ring (s : State) (i : SlotNo) (f : Slot → Slot) (p : Port) :
    (s.modSlot i f).ring p = s.ring p := rfl

/-! ### Readings that depend on one component -/

theorem State.port_eq {s t : State} (h : t.ports = s.ports) (p : Port) : t.port p = s.port p := by
  simp [State.port, h]

theorem State.station_eq {s t : State} (h : t.survey = s.survey) (st : StationNo) :
    t.station st = s.station st := by simp [State.station, h]

theorem State.due_eq {s t : State} (h : t.survey = s.survey) (p : Port) : t.due p = s.due p := by
  simp [State.due, h]

theorem State.context_eq {s t : State} (h : t.engine = s.engine) (c : ContextNo) :
    t.context c = s.context c := by simp [State.context, h]

theorem State.slot_eq {s t : State} (h : t.snapshots = s.snapshots) (i : SlotNo) : t.slot i = s.slot i := by
  simp [State.slot, h]

theorem State.ring_eq {s t : State} (h : t.snapshots = s.snapshots) (p : Port) : t.ring p = s.ring p := by
  simp [State.ring, h]

theorem State.stationRow_eq {s t : State} (h : t.tables = s.tables) (st : StationNo) :
    t.stationRow st = s.stationRow st := by simp [State.stationRow, h]

theorem State.portRow_eq {s t : State} (h : t.tables = s.tables) (p : Port) : t.portRow p = s.portRow p := by
  simp [State.portRow, h]

theorem State.format_eq {s t : State} (h : t.tables = s.tables) (d : DescriptorNo) :
    t.format d = s.format d := by simp [State.format, h]

theorem State.general_eq {s t : State} (h : t.tables = s.tables) : t.general = s.general := by
  simp [State.general, h]

end Sys2Proof.Machine
end

