-- ==== Sys2Proof/Laws/Frames.lean ====
section
/-! SUPPORT. What each shared operation leaves as it was: one lemma per operation, for every component of
the state that it cannot change. -/

namespace Sys2Proof.Machine

@[simp] theorem State.askToYield_frame (s : State) (c : ContextNo) :
    (s.askToYield c).pending = s.pending ∧ (s.askToYield c).tables = s.tables ∧
    (s.askToYield c).store = s.store ∧ (s.askToYield c).clock = s.clock ∧
    (s.askToYield c).survey = s.survey ∧ (s.askToYield c).ports = s.ports ∧
    (s.askToYield c).snapshots = s.snapshots ∧ (s.askToYield c).management = s.management ∧
    (s.askToYield c).streamer = s.streamer ∧ (s.askToYield c).notice = s.notice ∧
    (s.askToYield c).retention = s.retention ∧ (s.askToYield c).choices = s.choices := by
  unfold State.askToYield
  simp

@[simp] theorem maxRunCheck_frame (s : State) (c : ContextNo) :
    (maxRunCheck s c).pending = s.pending ∧ (maxRunCheck s c).tables = s.tables ∧
    (maxRunCheck s c).store = s.store ∧ (maxRunCheck s c).clock = s.clock ∧
    (maxRunCheck s c).survey = s.survey ∧ (maxRunCheck s c).ports = s.ports ∧
    (maxRunCheck s c).snapshots = s.snapshots ∧ (maxRunCheck s c).management = s.management ∧
    (maxRunCheck s c).streamer = s.streamer ∧ (maxRunCheck s c).notice = s.notice ∧
    (maxRunCheck s c).retention = s.retention ∧ (maxRunCheck s c).choices = s.choices := by
  unfold maxRunCheck
  (repeat' split) <;> simp

@[simp] theorem maxRunChecks_frame (s : State) (p : Port) :
    (maxRunChecks s p).pending = s.pending ∧ (maxRunChecks s p).tables = s.tables ∧
    (maxRunChecks s p).store = s.store ∧ (maxRunChecks s p).clock = s.clock ∧
    (maxRunChecks s p).survey = s.survey ∧ (maxRunChecks s p).ports = s.ports ∧
    (maxRunChecks s p).snapshots = s.snapshots ∧ (maxRunChecks s p).management = s.management ∧
    (maxRunChecks s p).streamer = s.streamer ∧ (maxRunChecks s p).notice = s.notice ∧
    (maxRunChecks s p).retention = s.retention ∧ (maxRunChecks s p).choices = s.choices := by
  unfold maxRunChecks
  refine ⟨by exact foldl_keeps State.pending _ (fun t b => by simp) _ _,
    by exact foldl_keeps State.tables _ (fun t b => by simp) _ _,
    by exact foldl_keeps State.store _ (fun t b => by simp) _ _,
    by exact foldl_keeps State.clock _ (fun t b => by simp) _ _,
    by exact foldl_keeps State.survey _ (fun t b => by simp) _ _,
    by exact foldl_keeps State.ports _ (fun t b => by simp) _ _,
    by exact foldl_keeps State.snapshots _ (fun t b => by simp) _ _,
    by exact foldl_keeps State.management _ (fun t b => by simp) _ _,
    by exact foldl_keeps State.streamer _ (fun t b => by simp) _ _,
    by exact foldl_keeps State.notice _ (fun t b => by simp) _ _,
    by exact foldl_keeps State.retention _ (fun t b => by simp) _ _,
    by exact foldl_keeps State.choices _ (fun t b => by simp) _ _⟩

@[simp] theorem preemptionCheck_frame (s : State) :
    (preemptionCheck s).pending = s.pending ∧ (preemptionCheck s).tables = s.tables ∧
    (preemptionCheck s).store = s.store ∧ (preemptionCheck s).clock = s.clock ∧
    (preemptionCheck s).survey = s.survey ∧ (preemptionCheck s).ports = s.ports ∧
    (preemptionCheck s).snapshots = s.snapshots ∧ (preemptionCheck s).management = s.management ∧
    (preemptionCheck s).streamer = s.streamer ∧ (preemptionCheck s).notice = s.notice ∧
    (preemptionCheck s).retention = s.retention ∧ (preemptionCheck s).choices = s.choices := by
  unfold preemptionCheck
  (repeat' split) <;> simp

@[simp] theorem lookCheck_frame (s : State) :
    (lookCheck s).pending = s.pending ∧ (lookCheck s).tables = s.tables ∧ (lookCheck s).store = s.store ∧
    (lookCheck s).clock = s.clock ∧ (lookCheck s).survey = s.survey ∧ (lookCheck s).ports = s.ports ∧
    (lookCheck s).snapshots = s.snapshots ∧ (lookCheck s).management = s.management ∧
    (lookCheck s).streamer = s.streamer ∧ (lookCheck s).notice = s.notice ∧
    (lookCheck s).retention = s.retention ∧ (lookCheck s).choices = s.choices := by
  unfold lookCheck
  (repeat' split) <;> simp

@[simp] theorem settleLook_frame (s : State) (before : State) :
    (settleLook s before).pending = s.pending ∧ (settleLook s before).tables = s.tables ∧
    (settleLook s before).store = s.store ∧ (settleLook s before).clock = s.clock ∧
    (settleLook s before).survey = s.survey ∧ (settleLook s before).ports = s.ports ∧
    (settleLook s before).snapshots = s.snapshots ∧ (settleLook s before).management = s.management ∧
    (settleLook s before).streamer = s.streamer ∧ (settleLook s before).notice = s.notice ∧
    (settleLook s before).retention = s.retention ∧ (settleLook s before).choices = s.choices := by
  unfold settleLook
  (repeat' split) <;> simp

@[simp] theorem joinNormal_frame (s : State) (st : StationNo) :
    (joinNormal s st).pending = s.pending ∧ (joinNormal s st).tables = s.tables ∧
    (joinNormal s st).store = s.store ∧ (joinNormal s st).clock = s.clock ∧
    (joinNormal s st).ports = s.ports ∧ (joinNormal s st).snapshots = s.snapshots ∧
    (joinNormal s st).management = s.management ∧ (joinNormal s st).streamer = s.streamer ∧
    (joinNormal s st).notice = s.notice ∧ (joinNormal s st).retention = s.retention ∧
    (joinNormal s st).choices = s.choices := by
  unfold joinNormal
  simp

@[simp] theorem joinUrgent_frame (s : State) (st : StationNo) :
    (joinUrgent s st).pending = s.pending ∧ (joinUrgent s st).tables = s.tables ∧
    (joinUrgent s st).store = s.store ∧ (joinUrgent s st).clock = s.clock ∧
    (joinUrgent s st).ports = s.ports ∧ (joinUrgent s st).snapshots = s.snapshots ∧
    (joinUrgent s st).management = s.management ∧ (joinUrgent s st).streamer = s.streamer ∧
    (joinUrgent s st).notice = s.notice ∧ (joinUrgent s st).retention = s.retention ∧
    (joinUrgent s st).choices = s.choices := by
  unfold joinUrgent
  simp

@[simp] theorem moveUrgent_frame (s : State) (st : StationNo) :
    (moveUrgent s st).pending = s.pending ∧ (moveUrgent s st).tables = s.tables ∧
    (moveUrgent s st).store = s.store ∧ (moveUrgent s st).clock = s.clock ∧
    (moveUrgent s st).engine = s.engine ∧ (moveUrgent s st).ports = s.ports ∧
    (moveUrgent s st).snapshots = s.snapshots ∧ (moveUrgent s st).management = s.management ∧
    (moveUrgent s st).streamer = s.streamer ∧ (moveUrgent s st).notice = s.notice ∧
    (moveUrgent s st).retention = s.retention ∧ (moveUrgent s st).choices = s.choices := by
  unfold moveUrgent
  simp

@[simp] theorem makeUrgent_frame (s : State) (st : StationNo) :
    (makeUrgent s st).pending = s.pending ∧ (makeUrgent s st).tables = s.tables ∧
    (makeUrgent s st).store = s.store ∧ (makeUrgent s st).clock = s.clock ∧
    (makeUrgent s st).ports = s.ports ∧ (makeUrgent s st).snapshots = s.snapshots ∧
    (makeUrgent s st).management = s.management ∧ (makeUrgent s st).streamer = s.streamer ∧
    (makeUrgent s st).notice = s.notice ∧ (makeUrgent s st).retention = s.retention ∧
    (makeUrgent s st).choices = s.choices := by
  unfold makeUrgent
  (repeat' split) <;> simp

@[simp] theorem urgencyRequest_frame (s : State) (st : StationNo) :
    (urgencyRequest s st).pending = s.pending ∧ (urgencyRequest s st).tables = s.tables ∧
    (urgencyRequest s st).store = s.store ∧ (urgencyRequest s st).clock = s.clock ∧
    (urgencyRequest s st).ports = s.ports ∧ (urgencyRequest s st).snapshots = s.snapshots ∧
    (urgencyRequest s st).management = s.management ∧ (urgencyRequest s st).streamer = s.streamer ∧
    (urgencyRequest s st).notice = s.notice ∧ (urgencyRequest s st).retention = s.retention ∧
    (urgencyRequest s st).choices = s.choices := by
  unfold urgencyRequest
  (repeat' split) <;> simp

@[simp] theorem flushDue_frame (s : State) :
    (flushDue s).pending = s.pending ∧ (flushDue s).tables = s.tables ∧ (flushDue s).store = s.store ∧
    (flushDue s).clock = s.clock ∧ (flushDue s).engine = s.engine ∧ (flushDue s).ports = s.ports ∧
    (flushDue s).snapshots = s.snapshots ∧ (flushDue s).management = s.management ∧
    (flushDue s).streamer = s.streamer ∧ (flushDue s).notice = s.notice ∧
    (flushDue s).retention = s.retention ∧ (flushDue s).choices = s.choices := by
  unfold flushDue
  simp

@[simp] theorem slotEvent_frame (s : State) (st : StationNo) :
    (slotEvent s st).pending = s.pending ∧ (slotEvent s st).tables = s.tables ∧
    (slotEvent s st).store = s.store ∧ (slotEvent s st).clock = s.clock ∧ (slotEvent s st).ports = s.ports ∧
    (slotEvent s st).snapshots = s.snapshots ∧ (slotEvent s st).management = s.management ∧
    (slotEvent s st).streamer = s.streamer ∧ (slotEvent s st).notice = s.notice ∧
    (slotEvent s st).retention = s.retention ∧ (slotEvent s st).choices = s.choices := by
  unfold slotEvent
  (repeat' split) <;> simp

@[simp] theorem slotEvents_frame (s : State) :
    (slotEvents s).pending = s.pending ∧ (slotEvents s).tables = s.tables ∧ (slotEvents s).store = s.store ∧
    (slotEvents s).clock = s.clock ∧ (slotEvents s).ports = s.ports ∧
    (slotEvents s).snapshots = s.snapshots ∧ (slotEvents s).management = s.management ∧
    (slotEvents s).streamer = s.streamer ∧ (slotEvents s).notice = s.notice ∧
    (slotEvents s).retention = s.retention ∧ (slotEvents s).choices = s.choices := by
  unfold slotEvents
  refine ⟨by exact foldl_keeps State.pending _ (fun t b => by (repeat' split) <;> simp) _ _,
    by exact foldl_keeps State.tables _ (fun t b => by (repeat' split) <;> simp) _ _,
    by exact foldl_keeps State.store _ (fun t b => by (repeat' split) <;> simp) _ _,
    by exact foldl_keeps State.clock _ (fun t b => by (repeat' split) <;> simp) _ _,
    by exact foldl_keeps State.ports _ (fun t b => by (repeat' split) <;> simp) _ _,
    by exact foldl_keeps State.snapshots _ (fun t b => by (repeat' split) <;> simp) _ _,
    by exact foldl_keeps State.management _ (fun t b => by (repeat' split) <;> simp) _ _,
    by exact foldl_keeps State.streamer _ (fun t b => by (repeat' split) <;> simp) _ _,
    by exact foldl_keeps State.notice _ (fun t b => by (repeat' split) <;> simp) _ _,
    by exact foldl_keeps State.retention _ (fun t b => by (repeat' split) <;> simp) _ _,
    by exact foldl_keeps State.choices _ (fun t b => by (repeat' split) <;> simp) _ _⟩

@[simp] theorem startRound_frame (s : State) :
    (startRound s).pending = s.pending ∧ (startRound s).tables = s.tables ∧ (startRound s).store = s.store ∧
    (startRound s).clock = s.clock ∧ (startRound s).ports = s.ports ∧
    (startRound s).snapshots = s.snapshots ∧ (startRound s).management = s.management ∧
    (startRound s).streamer = s.streamer ∧ (startRound s).notice = s.notice ∧
    (startRound s).retention = s.retention ∧ (startRound s).choices = s.choices := by
  unfold startRound
  simp

@[simp] theorem stopRound_frame (s : State) (v : SurveyState) :
    (stopRound s v).pending = s.pending ∧ (stopRound s v).tables = s.tables ∧
    (stopRound s v).store = s.store ∧ (stopRound s v).clock = s.clock ∧ (stopRound s v).engine = s.engine ∧
    (stopRound s v).ports = s.ports ∧ (stopRound s v).snapshots = s.snapshots ∧
    (stopRound s v).management = s.management ∧ (stopRound s v).streamer = s.streamer ∧
    (stopRound s v).notice = s.notice ∧ (stopRound s v).retention = s.retention ∧
    (stopRound s v).choices = s.choices := by
  unfold stopRound
  simp

@[simp] theorem surveyKeyOn_frame (s : State) :
    (surveyKeyOn s).pending = s.pending ∧ (surveyKeyOn s).tables = s.tables ∧
    (surveyKeyOn s).store = s.store ∧ (surveyKeyOn s).clock = s.clock ∧ (surveyKeyOn s).ports = s.ports ∧
    (surveyKeyOn s).snapshots = s.snapshots ∧ (surveyKeyOn s).management = s.management ∧
    (surveyKeyOn s).streamer = s.streamer ∧ (surveyKeyOn s).notice = s.notice ∧
    (surveyKeyOn s).retention = s.retention ∧ (surveyKeyOn s).choices = s.choices := by
  unfold surveyKeyOn
  dsimp only
  (repeat' split) <;> simp

@[simp] theorem endRound_frame (s : State) :
    (endRound s).pending = s.pending ∧ (endRound s).tables = s.tables ∧ (endRound s).store = s.store ∧
    (endRound s).clock = s.clock ∧ (endRound s).ports = s.ports ∧ (endRound s).snapshots = s.snapshots ∧
    (endRound s).management = s.management ∧ (endRound s).streamer = s.streamer ∧
    (endRound s).notice = s.notice ∧ (endRound s).retention = s.retention ∧ (endRound s).choices = s.choices := by
  unfold endRound
  (repeat' split) <;> simp

@[simp] theorem raiseRound_frame (s : State) :
    (raiseRound s).pending = s.pending ∧ (raiseRound s).tables = s.tables ∧ (raiseRound s).store = s.store ∧
    (raiseRound s).clock = s.clock ∧ (raiseRound s).ports = s.ports ∧
    (raiseRound s).snapshots = s.snapshots ∧ (raiseRound s).management = s.management ∧
    (raiseRound s).streamer = s.streamer ∧ (raiseRound s).notice = s.notice ∧
    (raiseRound s).retention = s.retention ∧ (raiseRound s).choices = s.choices := by
  unfold raiseRound
  dsimp only
  (repeat' split) <;> simp

@[simp] theorem freeSlot_frame (s : State) (i : SlotNo) :
    (freeSlot s i).pending = s.pending ∧ (freeSlot s i).tables = s.tables ∧ (freeSlot s i).clock = s.clock ∧
    (freeSlot s i).survey = s.survey ∧ (freeSlot s i).engine = s.engine ∧ (freeSlot s i).ports = s.ports ∧
    (freeSlot s i).management = s.management ∧ (freeSlot s i).notice = s.notice ∧
    (freeSlot s i).retention = s.retention ∧ (freeSlot s i).choices = s.choices := by
  unfold freeSlot
  simp

@[simp] theorem freeSlotOf_frame (s : State) (e : Entry) :
    (freeSlotOf s e).pending = s.pending ∧ (freeSlotOf s e).tables = s.tables ∧
    (freeSlotOf s e).clock = s.clock ∧ (freeSlotOf s e).survey = s.survey ∧
    (freeSlotOf s e).engine = s.engine ∧ (freeSlotOf s e).ports = s.ports ∧
    (freeSlotOf s e).management = s.management ∧ (freeSlotOf s e).notice = s.notice ∧
    (freeSlotOf s e).retention = s.retention ∧ (freeSlotOf s e).choices = s.choices := by
  unfold freeSlotOf
  (repeat' split) <;> simp

@[simp] theorem removeEntries_frame (s : State) (q : Entry → Bool) :
    (removeEntries s q).pending = s.pending ∧ (removeEntries s q).tables = s.tables ∧
    (removeEntries s q).clock = s.clock ∧ (removeEntries s q).survey = s.survey ∧
    (removeEntries s q).engine = s.engine ∧ (removeEntries s q).ports = s.ports ∧
    (removeEntries s q).management = s.management ∧ (removeEntries s q).notice = s.notice ∧
    (removeEntries s q).retention = s.retention ∧ (removeEntries s q).choices = s.choices := by
  unfold removeEntries
  refine ⟨by rw [State.modStore_pending]; exact foldl_keeps State.pending _ (fun t b => by simp) _ _,
    by rw [State.modStore_tables]; exact foldl_keeps State.tables _ (fun t b => by simp) _ _,
    by rw [State.modStore_clock]; exact foldl_keeps State.clock _ (fun t b => by simp) _ _,
    by rw [State.modStore_survey]; exact foldl_keeps State.survey _ (fun t b => by simp) _ _,
    by rw [State.modStore_engine]; exact foldl_keeps State.engine _ (fun t b => by simp) _ _,
    by rw [State.modStore_ports]; exact foldl_keeps State.ports _ (fun t b => by simp) _ _,
    by rw [State.modStore_management]; exact foldl_keeps State.management _ (fun t b => by simp) _ _,
    by rw [State.modStore_notice]; exact foldl_keeps State.notice _ (fun t b => by simp) _ _,
    by rw [State.modStore_retention]; exact foldl_keeps State.retention _ (fun t b => by simp) _ _,
    by rw [State.modStore_choices]; exact foldl_keeps State.choices _ (fun t b => by simp) _ _⟩

@[simp] theorem captureInto_frame (s : State) (seq : Nat) (row : StationRow) (i : SlotNo) :
    (captureInto s seq row i).pending = s.pending ∧ (captureInto s seq row i).tables = s.tables ∧
    (captureInto s seq row i).clock = s.clock ∧ (captureInto s seq row i).survey = s.survey ∧
    (captureInto s seq row i).engine = s.engine ∧ (captureInto s seq row i).ports = s.ports ∧
    (captureInto s seq row i).management = s.management ∧ (captureInto s seq row i).streamer = s.streamer ∧
    (captureInto s seq row i).notice = s.notice ∧ (captureInto s seq row i).retention = s.retention ∧
    (captureInto s seq row i).choices = s.choices := by
  unfold captureInto
  simp

@[simp] theorem missCapture_frame (s : State) (seq : Nat) :
    (missCapture s seq).pending = s.pending ∧ (missCapture s seq).tables = s.tables ∧
    (missCapture s seq).clock = s.clock ∧ (missCapture s seq).survey = s.survey ∧
    (missCapture s seq).engine = s.engine ∧ (missCapture s seq).ports = s.ports ∧
    (missCapture s seq).snapshots = s.snapshots ∧ (missCapture s seq).management = s.management ∧
    (missCapture s seq).streamer = s.streamer ∧ (missCapture s seq).notice = s.notice ∧
    (missCapture s seq).retention = s.retention ∧ (missCapture s seq).choices = s.choices := by
  unfold missCapture
  simp

@[simp] theorem takeTrigger_frame (s : State) (tr : Trigger) :
    (takeTrigger s tr).pending = s.pending ∧ (takeTrigger s tr).tables = s.tables ∧
    (takeTrigger s tr).clock = s.clock ∧ (takeTrigger s tr).survey = s.survey ∧
    (takeTrigger s tr).engine = s.engine ∧ (takeTrigger s tr).ports = s.ports ∧
    (takeTrigger s tr).management = s.management ∧ (takeTrigger s tr).streamer = s.streamer ∧
    (takeTrigger s tr).notice = s.notice ∧ (takeTrigger s tr).retention = s.retention ∧
    (takeTrigger s tr).choices = s.choices := by
  unfold takeTrigger
  dsimp only
  (repeat' split) <;> simp [*]

@[simp] theorem enterRing_frame (s : State) (p : Port) (x : RingFrame) :
    (enterRing s p x).pending = s.pending ∧ (enterRing s p x).tables = s.tables ∧
    (enterRing s p x).store = s.store ∧ (enterRing s p x).clock = s.clock ∧
    (enterRing s p x).survey = s.survey ∧ (enterRing s p x).engine = s.engine ∧
    (enterRing s p x).ports = s.ports ∧ (enterRing s p x).management = s.management ∧
    (enterRing s p x).streamer = s.streamer ∧ (enterRing s p x).notice = s.notice ∧
    (enterRing s p x).retention = s.retention ∧ (enterRing s p x).choices = s.choices := by
  unfold enterRing
  simp

@[simp] theorem finishSlots_frame (s : State) :
    (finishSlots s).pending = s.pending ∧ (finishSlots s).tables = s.tables ∧
    (finishSlots s).store = s.store ∧ (finishSlots s).clock = s.clock ∧ (finishSlots s).survey = s.survey ∧
    (finishSlots s).engine = s.engine ∧ (finishSlots s).ports = s.ports ∧
    (finishSlots s).management = s.management ∧ (finishSlots s).streamer = s.streamer ∧
    (finishSlots s).notice = s.notice ∧ (finishSlots s).retention = s.retention ∧
    (finishSlots s).choices = s.choices := by
  unfold finishSlots
  simp

@[simp] theorem emptyRings_frame (s : State) :
    (emptyRings s).pending = s.pending ∧ (emptyRings s).tables = s.tables ∧ (emptyRings s).store = s.store ∧
    (emptyRings s).clock = s.clock ∧ (emptyRings s).survey = s.survey ∧ (emptyRings s).engine = s.engine ∧
    (emptyRings s).ports = s.ports ∧ (emptyRings s).management = s.management ∧
    (emptyRings s).streamer = s.streamer ∧ (emptyRings s).notice = s.notice ∧
    (emptyRings s).retention = s.retention ∧ (emptyRings s).choices = s.choices := by
  unfold emptyRings
  simp

@[simp] theorem handOff_frame (s : State) (seq : Nat) (m : Merge) :
    (handOff s seq m).pending = s.pending ∧ (handOff s seq m).tables = s.tables ∧
    (handOff s seq m).store = s.store ∧ (handOff s seq m).clock = s.clock ∧
    (handOff s seq m).ports = s.ports ∧ (handOff s seq m).management = s.management ∧
    (handOff s seq m).streamer = s.streamer ∧ (handOff s seq m).notice = s.notice ∧
    (handOff s seq m).retention = s.retention ∧ (handOff s seq m).choices = s.choices := by
  unfold handOff
  (repeat' split) <;> simp

@[simp] theorem noticeCreation_frame (s : State) (seq : Nat) :
    (noticeCreation s seq).pending = s.pending ∧ (noticeCreation s seq).tables = s.tables ∧
    (noticeCreation s seq).store = s.store ∧ (noticeCreation s seq).clock = s.clock ∧
    (noticeCreation s seq).survey = s.survey ∧ (noticeCreation s seq).engine = s.engine ∧
    (noticeCreation s seq).ports = s.ports ∧ (noticeCreation s seq).snapshots = s.snapshots ∧
    (noticeCreation s seq).management = s.management ∧ (noticeCreation s seq).streamer = s.streamer ∧
    (noticeCreation s seq).retention = s.retention ∧ (noticeCreation s seq).choices = s.choices := by
  unfold noticeCreation
  simp

@[simp] theorem createEntry_frame (s : State) (m : Merge) :
    (createEntry s m).pending = s.pending ∧ (createEntry s m).tables = s.tables ∧
    (createEntry s m).clock = s.clock ∧ (createEntry s m).ports = s.ports ∧
    (createEntry s m).management = s.management ∧ (createEntry s m).streamer = s.streamer ∧
    (createEntry s m).retention = s.retention ∧ (createEntry s m).choices = s.choices := by
  unfold createEntry
  simp

@[simp] theorem evict_frame (s : State) (e : Entry) :
    (evict s e).pending = s.pending ∧ (evict s e).tables = s.tables ∧ (evict s e).clock = s.clock ∧
    (evict s e).survey = s.survey ∧ (evict s e).engine = s.engine ∧ (evict s e).ports = s.ports ∧
    (evict s e).management = s.management ∧ (evict s e).notice = s.notice ∧
    (evict s e).retention = s.retention ∧ (evict s e).choices = s.choices := by
  unfold evict
  simp

@[simp] theorem refuseMerge_frame (s : State) :
    (refuseMerge s).pending = s.pending ∧ (refuseMerge s).tables = s.tables ∧
    (refuseMerge s).clock = s.clock ∧ (refuseMerge s).survey = s.survey ∧
    (refuseMerge s).engine = s.engine ∧ (refuseMerge s).ports = s.ports ∧
    (refuseMerge s).snapshots = s.snapshots ∧ (refuseMerge s).management = s.management ∧
    (refuseMerge s).streamer = s.streamer ∧ (refuseMerge s).notice = s.notice ∧
    (refuseMerge s).retention = s.retention ∧ (refuseMerge s).choices = s.choices := by
  unfold refuseMerge
  simp

@[simp] theorem newKeyMerge_frame (s : State) (m : Merge) :
    (newKeyMerge s m).pending = s.pending ∧ (newKeyMerge s m).tables = s.tables ∧
    (newKeyMerge s m).clock = s.clock ∧ (newKeyMerge s m).ports = s.ports ∧
    (newKeyMerge s m).management = s.management ∧ (newKeyMerge s m).retention = s.retention ∧
    (newKeyMerge s m).choices = s.choices := by
  unfold newKeyMerge
  (repeat' split) <;> simp

@[simp] theorem takeMerge_frame (s : State) (m : Merge) :
    (takeMerge s m).pending = s.pending ∧ (takeMerge s m).tables = s.tables ∧
    (takeMerge s m).clock = s.clock ∧ (takeMerge s m).ports = s.ports ∧
    (takeMerge s m).management = s.management ∧ (takeMerge s m).retention = s.retention ∧
    (takeMerge s m).choices = s.choices := by
  unfold takeMerge
  (repeat' split) <;> simp

@[simp] theorem clearSeen_frame (s : State) (st : StationNo) :
    (clearSeen s st).pending = s.pending ∧ (clearSeen s st).tables = s.tables ∧
    (clearSeen s st).clock = s.clock ∧ (clearSeen s st).survey = s.survey ∧
    (clearSeen s st).engine = s.engine ∧ (clearSeen s st).ports = s.ports ∧
    (clearSeen s st).snapshots = s.snapshots ∧ (clearSeen s st).management = s.management ∧
    (clearSeen s st).streamer = s.streamer ∧ (clearSeen s st).notice = s.notice ∧
    (clearSeen s st).retention = s.retention ∧ (clearSeen s st).choices = s.choices := by
  unfold clearSeen
  simp

@[simp] theorem markGone_frame (s : State) (st : StationNo) :
    (markGone s st).pending = s.pending ∧ (markGone s st).tables = s.tables ∧
    (markGone s st).clock = s.clock ∧ (markGone s st).survey = s.survey ∧
    (markGone s st).engine = s.engine ∧ (markGone s st).ports = s.ports ∧
    (markGone s st).snapshots = s.snapshots ∧ (markGone s st).management = s.management ∧
    (markGone s st).streamer = s.streamer ∧ (markGone s st).notice = s.notice ∧
    (markGone s st).retention = s.retention ∧ (markGone s st).choices = s.choices := by
  unfold markGone
  simp

@[simp] theorem clearStation_frame (s : State) (st : StationNo) :
    (clearStation s st).pending = s.pending ∧ (clearStation s st).tables = s.tables ∧
    (clearStation s st).clock = s.clock ∧ (clearStation s st).engine = s.engine ∧
    (clearStation s st).ports = s.ports ∧ (clearStation s st).management = s.management ∧
    (clearStation s st).notice = s.notice ∧ (clearStation s st).retention = s.retention ∧
    (clearStation s st).choices = s.choices := by
  unfold clearStation
  simp

@[simp] theorem clearStore_frame (s : State) :
    (clearStore s).pending = s.pending ∧ (clearStore s).tables = s.tables ∧ (clearStore s).clock = s.clock ∧
    (clearStore s).engine = s.engine ∧ (clearStore s).ports = s.ports ∧
    (clearStore s).management = s.management ∧ (clearStore s).notice = s.notice ∧
    (clearStore s).retention = s.retention ∧ (clearStore s).choices = s.choices := by
  unfold clearStore
  simp

@[simp] theorem applyStationRow_frame (s : State) (st : StationNo) (row : StationRow) :
    (applyStationRow s st row).pending = s.pending ∧ (applyStationRow s st row).store = s.store ∧
    (applyStationRow s st row).clock = s.clock ∧ (applyStationRow s st row).ports = s.ports ∧
    (applyStationRow s st row).snapshots = s.snapshots ∧
    (applyStationRow s st row).management = s.management ∧
    (applyStationRow s st row).streamer = s.streamer ∧ (applyStationRow s st row).notice = s.notice ∧
    (applyStationRow s st row).retention = s.retention ∧ (applyStationRow s st row).choices = s.choices := by
  unfold applyStationRow
  dsimp only
  (repeat' split) <;> simp

@[simp] theorem applyFormat_frame (s : State) (n : DescriptorNo) (row : Descriptor) :
    (applyFormat s n row).pending = s.pending ∧ (applyFormat s n row).store = s.store ∧
    (applyFormat s n row).clock = s.clock ∧ (applyFormat s n row).survey = s.survey ∧
    (applyFormat s n row).engine = s.engine ∧ (applyFormat s n row).ports = s.ports ∧
    (applyFormat s n row).snapshots = s.snapshots ∧ (applyFormat s n row).management = s.management ∧
    (applyFormat s n row).streamer = s.streamer ∧ (applyFormat s n row).notice = s.notice ∧
    (applyFormat s n row).retention = s.retention ∧ (applyFormat s n row).choices = s.choices := by
  unfold applyFormat
  simp

@[simp] theorem applyPending_frame (s : State) (pc : PendingCommit) :
    (applyPending s pc).pending = s.pending ∧ (applyPending s pc).store = s.store ∧
    (applyPending s pc).clock = s.clock ∧ (applyPending s pc).ports = s.ports ∧
    (applyPending s pc).snapshots = s.snapshots ∧ (applyPending s pc).management = s.management ∧
    (applyPending s pc).streamer = s.streamer ∧ (applyPending s pc).notice = s.notice ∧
    (applyPending s pc).retention = s.retention ∧ (applyPending s pc).choices = s.choices := by
  unfold applyPending
  (repeat' split) <;> simp

@[simp] theorem releasePending_frame (s : State) :
    (releasePending s).pending = s.pending ∧ (releasePending s).store = s.store ∧
    (releasePending s).clock = s.clock ∧ (releasePending s).ports = s.ports ∧
    (releasePending s).snapshots = s.snapshots ∧ (releasePending s).streamer = s.streamer ∧
    (releasePending s).notice = s.notice ∧ (releasePending s).retention = s.retention ∧
    (releasePending s).choices = s.choices := by
  unfold releasePending
  (repeat' split) <;> simp

@[simp] theorem sendQuery_frame (s : State) (c : ContextNo) :
    (sendQuery s c).pending = s.pending ∧ (sendQuery s c).tables = s.tables ∧
    (sendQuery s c).store = s.store ∧ (sendQuery s c).clock = s.clock ∧ (sendQuery s c).survey = s.survey ∧
    (sendQuery s c).snapshots = s.snapshots ∧ (sendQuery s c).management = s.management ∧
    (sendQuery s c).streamer = s.streamer ∧ (sendQuery s c).notice = s.notice ∧
    (sendQuery s c).retention = s.retention ∧ (sendQuery s c).choices = s.choices := by
  unfold sendQuery
  (repeat' split) <;> simp

@[simp] theorem withdrawQuery_frame (s : State) (c : ContextNo) (d : Dialogue) :
    (withdrawQuery s c d).pending = s.pending ∧ (withdrawQuery s c d).tables = s.tables ∧
    (withdrawQuery s c d).store = s.store ∧ (withdrawQuery s c d).clock = s.clock ∧
    (withdrawQuery s c d).survey = s.survey ∧ (withdrawQuery s c d).engine = s.engine ∧
    (withdrawQuery s c d).snapshots = s.snapshots ∧ (withdrawQuery s c d).management = s.management ∧
    (withdrawQuery s c d).streamer = s.streamer ∧ (withdrawQuery s c d).notice = s.notice ∧
    (withdrawQuery s c d).retention = s.retention ∧ (withdrawQuery s c d).choices = s.choices := by
  unfold withdrawQuery
  simp

@[simp] theorem recordOutcome_frame (s : State) (d : Dialogue) (o : Closing) :
    (recordOutcome s d o).pending = s.pending ∧ (recordOutcome s d o).tables = s.tables ∧
    (recordOutcome s d o).store = s.store ∧ (recordOutcome s d o).clock = s.clock ∧
    (recordOutcome s d o).ports = s.ports ∧ (recordOutcome s d o).snapshots = s.snapshots ∧
    (recordOutcome s d o).management = s.management ∧ (recordOutcome s d o).streamer = s.streamer ∧
    (recordOutcome s d o).notice = s.notice ∧ (recordOutcome s d o).retention = s.retention ∧
    (recordOutcome s d o).choices = s.choices := by
  unfold recordOutcome
  (repeat' split) <;> simp

@[simp] theorem closeDialogue_frame (s : State) (c : ContextNo) (o : Closing) :
    (closeDialogue s c o).pending = s.pending ∧ (closeDialogue s c o).clock = s.clock ∧
    (closeDialogue s c o).snapshots = s.snapshots ∧ (closeDialogue s c o).streamer = s.streamer ∧
    (closeDialogue s c o).notice = s.notice ∧ (closeDialogue s c o).retention = s.retention ∧
    (closeDialogue s c o).choices = s.choices := by
  unfold closeDialogue
  (repeat' split) <;> simp

@[simp] theorem cutAll_frame (s : State) :
    (cutAll s).pending = s.pending ∧ (cutAll s).clock = s.clock ∧ (cutAll s).snapshots = s.snapshots ∧
    (cutAll s).streamer = s.streamer ∧ (cutAll s).notice = s.notice ∧ (cutAll s).retention = s.retention ∧
    (cutAll s).choices = s.choices := by
  unfold cutAll
  refine ⟨by exact foldl_keeps State.pending _ (fun t b => by simp) _ _,
    by exact foldl_keeps State.clock _ (fun t b => by simp) _ _,
    by exact foldl_keeps State.snapshots _ (fun t b => by simp) _ _,
    by exact foldl_keeps State.streamer _ (fun t b => by simp) _ _,
    by exact foldl_keeps State.notice _ (fun t b => by simp) _ _,
    by exact foldl_keeps State.retention _ (fun t b => by simp) _ _,
    by exact foldl_keeps State.choices _ (fun t b => by simp) _ _⟩

@[simp] theorem losePort_frame (s : State) (p : Port) :
    (losePort s p).pending = s.pending ∧ (losePort s p).clock = s.clock ∧
    (losePort s p).snapshots = s.snapshots ∧ (losePort s p).streamer = s.streamer ∧
    (losePort s p).notice = s.notice ∧ (losePort s p).retention = s.retention ∧
    (losePort s p).choices = s.choices := by
  unfold losePort
  refine ⟨by exact foldl_keeps State.pending _ (fun t b => by (repeat' split) <;> simp) _ _,
    by exact foldl_keeps State.clock _ (fun t b => by (repeat' split) <;> simp) _ _,
    by exact foldl_keeps State.snapshots _ (fun t b => by (repeat' split) <;> simp) _ _,
    by exact foldl_keeps State.streamer _ (fun t b => by (repeat' split) <;> simp) _ _,
    by exact foldl_keeps State.notice _ (fun t b => by (repeat' split) <;> simp) _ _,
    by exact foldl_keeps State.retention _ (fun t b => by (repeat' split) <;> simp) _ _,
    by exact foldl_keeps State.choices _ (fun t b => by (repeat' split) <;> simp) _ _⟩

@[simp] theorem bindContext_frame (s : State) (g : Grant) :
    (bindContext s g).pending = s.pending ∧ (bindContext s g).tables = s.tables ∧
    (bindContext s g).store = s.store ∧ (bindContext s g).clock = s.clock ∧
    (bindContext s g).snapshots = s.snapshots ∧ (bindContext s g).management = s.management ∧
    (bindContext s g).streamer = s.streamer ∧ (bindContext s g).notice = s.notice ∧
    (bindContext s g).retention = s.retention ∧ (bindContext s g).choices = s.choices := by
  unfold bindContext
  simp

@[simp] theorem retryPoint_frame (s : State) (c : ContextNo) :
    (retryPoint s c).pending = s.pending ∧ (retryPoint s c).clock = s.clock ∧
    (retryPoint s c).snapshots = s.snapshots ∧ (retryPoint s c).streamer = s.streamer ∧
    (retryPoint s c).notice = s.notice ∧ (retryPoint s c).retention = s.retention ∧
    (retryPoint s c).choices = s.choices := by
  unfold retryPoint
  (repeat' split) <;> simp

@[simp] theorem acceptHeader_frame (s : State) (c : ContextNo) (d : Dialogue) (n : Nat) :
    (acceptHeader s c d n).pending = s.pending ∧ (acceptHeader s c d n).clock = s.clock ∧
    (acceptHeader s c d n).snapshots = s.snapshots ∧ (acceptHeader s c d n).streamer = s.streamer ∧
    (acceptHeader s c d n).notice = s.notice ∧ (acceptHeader s c d n).retention = s.retention ∧
    (acceptHeader s c d n).choices = s.choices := by
  unfold acceptHeader
  dsimp only
  (repeat' split) <;> simp

@[simp] theorem restartPass_frame (s : State) (c : ContextNo) (d : Dialogue) (n : Nat) :
    (restartPass s c d n).pending = s.pending ∧ (restartPass s c d n).tables = s.tables ∧
    (restartPass s c d n).clock = s.clock ∧ (restartPass s c d n).survey = s.survey ∧
    (restartPass s c d n).snapshots = s.snapshots ∧ (restartPass s c d n).management = s.management ∧
    (restartPass s c d n).streamer = s.streamer ∧ (restartPass s c d n).notice = s.notice ∧
    (restartPass s c d n).retention = s.retention ∧ (restartPass s c d n).choices = s.choices := by
  unfold restartPass
  simp

@[simp] theorem takeHeader_frame (s : State) (c : ContextNo) (d : Dialogue) (n : Nat) :
    (takeHeader s c d n).pending = s.pending ∧ (takeHeader s c d n).clock = s.clock ∧
    (takeHeader s c d n).snapshots = s.snapshots ∧ (takeHeader s c d n).streamer = s.streamer ∧
    (takeHeader s c d n).notice = s.notice ∧ (takeHeader s c d n).retention = s.retention ∧
    (takeHeader s c d n).choices = s.choices := by
  unfold takeHeader
  (repeat' split) <;> simp

@[simp] theorem windowBoundary_frame (s : State) (c : ContextNo) (d : Dialogue) :
    (windowBoundary s c d).pending = s.pending ∧ (windowBoundary s c d).clock = s.clock ∧
    (windowBoundary s c d).snapshots = s.snapshots ∧ (windowBoundary s c d).streamer = s.streamer ∧
    (windowBoundary s c d).notice = s.notice ∧ (windowBoundary s c d).retention = s.retention ∧
    (windowBoundary s c d).choices = s.choices := by
  unfold windowBoundary
  (repeat' split) <;> simp

@[simp] theorem afterAdvance_frame (s : State) (c : ContextNo) :
    (afterAdvance s c).pending = s.pending ∧ (afterAdvance s c).clock = s.clock ∧
    (afterAdvance s c).snapshots = s.snapshots ∧ (afterAdvance s c).streamer = s.streamer ∧
    (afterAdvance s c).notice = s.notice ∧ (afterAdvance s c).retention = s.retention ∧
    (afterAdvance s c).choices = s.choices := by
  unfold afterAdvance
  (repeat' split) <;> simp

@[simp] theorem acceptRecord_frame (s : State) (c : ContextNo) (d : Dialogue) (r : FaultReport) :
    (acceptRecord s c d r).pending = s.pending ∧ (acceptRecord s c d r).clock = s.clock ∧
    (acceptRecord s c d r).retention = s.retention ∧ (acceptRecord s c d r).choices = s.choices := by
  unfold acceptRecord
  simp

@[simp] theorem takeRecord_frame (s : State) (c : ContextNo) (d : Dialogue) (n : Nat) (r : FaultReport) :
    (takeRecord s c d n r).pending = s.pending ∧ (takeRecord s c d n r).clock = s.clock ∧
    (takeRecord s c d n r).retention = s.retention ∧ (takeRecord s c d n r).choices = s.choices := by
  unfold takeRecord
  (repeat' split) <;> simp

@[simp] theorem restartSleep_frame (s : State) :
    (restartSleep s).pending = s.pending ∧ (restartSleep s).tables = s.tables ∧
    (restartSleep s).store = s.store ∧ (restartSleep s).clock = s.clock ∧
    (restartSleep s).survey = s.survey ∧ (restartSleep s).engine = s.engine ∧
    (restartSleep s).ports = s.ports ∧ (restartSleep s).snapshots = s.snapshots ∧
    (restartSleep s).management = s.management ∧ (restartSleep s).streamer = s.streamer ∧
    (restartSleep s).notice = s.notice ∧ (restartSleep s).choices = s.choices := by
  unfold restartSleep
  simp

@[simp] theorem stopSleep_frame (s : State) :
    (stopSleep s).pending = s.pending ∧ (stopSleep s).tables = s.tables ∧ (stopSleep s).store = s.store ∧
    (stopSleep s).clock = s.clock ∧ (stopSleep s).survey = s.survey ∧ (stopSleep s).engine = s.engine ∧
    (stopSleep s).ports = s.ports ∧ (stopSleep s).snapshots = s.snapshots ∧
    (stopSleep s).management = s.management ∧ (stopSleep s).streamer = s.streamer ∧
    (stopSleep s).notice = s.notice ∧ (stopSleep s).choices = s.choices := by
  unfold stopSleep
  simp

@[simp] theorem enterSaving_frame (s : State) :
    (enterSaving s).pending = s.pending ∧ (enterSaving s).tables = s.tables ∧
    (enterSaving s).store = s.store ∧ (enterSaving s).clock = s.clock ∧ (enterSaving s).survey = s.survey ∧
    (enterSaving s).engine = s.engine ∧ (enterSaving s).ports = s.ports ∧
    (enterSaving s).snapshots = s.snapshots ∧ (enterSaving s).management = s.management ∧
    (enterSaving s).streamer = s.streamer ∧ (enterSaving s).notice = s.notice ∧
    (enterSaving s).choices = s.choices := by
  unfold enterSaving
  simp

@[simp] theorem checkSleep_frame (s : State) :
    (checkSleep s).pending = s.pending ∧ (checkSleep s).tables = s.tables ∧ (checkSleep s).store = s.store ∧
    (checkSleep s).clock = s.clock ∧ (checkSleep s).survey = s.survey ∧ (checkSleep s).engine = s.engine ∧
    (checkSleep s).ports = s.ports ∧ (checkSleep s).snapshots = s.snapshots ∧
    (checkSleep s).management = s.management ∧ (checkSleep s).streamer = s.streamer ∧
    (checkSleep s).notice = s.notice ∧ (checkSleep s).choices = s.choices := by
  unfold checkSleep
  (repeat' split) <;> simp

@[simp] theorem abandonSave_frame (s : State) :
    (abandonSave s).pending = s.pending ∧ (abandonSave s).tables = s.tables ∧
    (abandonSave s).store = s.store ∧ (abandonSave s).clock = s.clock ∧ (abandonSave s).survey = s.survey ∧
    (abandonSave s).engine = s.engine ∧ (abandonSave s).ports = s.ports ∧
    (abandonSave s).snapshots = s.snapshots ∧ (abandonSave s).management = s.management ∧
    (abandonSave s).streamer = s.streamer ∧ (abandonSave s).notice = s.notice ∧
    (abandonSave s).choices = s.choices := by
  unfold abandonSave
  (repeat' split) <;> simp

@[simp] theorem arrivalSeen_frame (s : State) :
    (arrivalSeen s).pending = s.pending ∧ (arrivalSeen s).tables = s.tables ∧
    (arrivalSeen s).store = s.store ∧ (arrivalSeen s).clock = s.clock ∧ (arrivalSeen s).survey = s.survey ∧
    (arrivalSeen s).engine = s.engine ∧ (arrivalSeen s).ports = s.ports ∧
    (arrivalSeen s).snapshots = s.snapshots ∧ (arrivalSeen s).management = s.management ∧
    (arrivalSeen s).streamer = s.streamer ∧ (arrivalSeen s).notice = s.notice ∧
    (arrivalSeen s).choices = s.choices := by
  unfold arrivalSeen
  dsimp only
  (repeat' split) <;> simp

@[simp] theorem vehicleTime_frame (s : State) (v : Nat) :
    (vehicleTime s v).pending = s.pending ∧ (vehicleTime s v).tables = s.tables ∧
    (vehicleTime s v).store = s.store ∧ (vehicleTime s v).survey = s.survey ∧
    (vehicleTime s v).engine = s.engine ∧ (vehicleTime s v).ports = s.ports ∧
    (vehicleTime s v).snapshots = s.snapshots ∧ (vehicleTime s v).management = s.management ∧
    (vehicleTime s v).streamer = s.streamer ∧ (vehicleTime s v).notice = s.notice ∧
    (vehicleTime s v).retention = s.retention ∧ (vehicleTime s v).choices = s.choices := by
  unfold vehicleTime
  (repeat' split) <;> simp

@[simp] theorem startGrace_frame (s : State) :
    (startGrace s).pending = s.pending ∧ (startGrace s).clock = s.clock ∧
    (startGrace s).snapshots = s.snapshots ∧ (startGrace s).streamer = s.streamer ∧
    (startGrace s).notice = s.notice ∧ (startGrace s).retention = s.retention ∧
    (startGrace s).choices = s.choices := by
  unfold startGrace
  (repeat' split) <;> simp

@[simp] theorem surveyKeyOff_frame (s : State) :
    (surveyKeyOff s).pending = s.pending ∧ (surveyKeyOff s).clock = s.clock ∧
    (surveyKeyOff s).snapshots = s.snapshots ∧ (surveyKeyOff s).streamer = s.streamer ∧
    (surveyKeyOff s).notice = s.notice ∧ (surveyKeyOff s).retention = s.retention ∧
    (surveyKeyOff s).choices = s.choices := by
  unfold surveyKeyOff
  (repeat' split) <;> simp

@[simp] theorem keyOnEvent_frame (s : State) :
    (keyOnEvent s).pending = s.pending ∧ (keyOnEvent s).tables = s.tables ∧ (keyOnEvent s).store = s.store ∧
    (keyOnEvent s).ports = s.ports ∧ (keyOnEvent s).snapshots = s.snapshots ∧
    (keyOnEvent s).management = s.management ∧ (keyOnEvent s).streamer = s.streamer ∧
    (keyOnEvent s).notice = s.notice ∧ (keyOnEvent s).choices = s.choices := by
  unfold keyOnEvent
  simp

@[simp] theorem keyOffEvent_frame (s : State) :
    (keyOffEvent s).pending = s.pending ∧ (keyOffEvent s).snapshots = s.snapshots ∧
    (keyOffEvent s).streamer = s.streamer ∧ (keyOffEvent s).notice = s.notice ∧
    (keyOffEvent s).choices = s.choices := by
  unfold keyOffEvent
  simp

@[simp] theorem restartKeyLoss_frame (s : State) :
    (restartKeyLoss s).pending = s.pending ∧ (restartKeyLoss s).tables = s.tables ∧
    (restartKeyLoss s).store = s.store ∧ (restartKeyLoss s).survey = s.survey ∧
    (restartKeyLoss s).engine = s.engine ∧ (restartKeyLoss s).ports = s.ports ∧
    (restartKeyLoss s).snapshots = s.snapshots ∧ (restartKeyLoss s).management = s.management ∧
    (restartKeyLoss s).streamer = s.streamer ∧ (restartKeyLoss s).notice = s.notice ∧
    (restartKeyLoss s).retention = s.retention ∧ (restartKeyLoss s).choices = s.choices := by
  unfold restartKeyLoss
  simp

@[simp] theorem applyReading_frame (s : State) (k : KeyState) :
    (applyReading s k).pending = s.pending ∧ (applyReading s k).snapshots = s.snapshots ∧
    (applyReading s k).streamer = s.streamer ∧ (applyReading s k).notice = s.notice ∧
    (applyReading s k).choices = s.choices := by
  unfold applyReading
  (repeat' split) <;> simp

@[simp] theorem keyValue_frame (s : State) (raw : Nat) (mask on : BitVec 32) :
    (keyValue s raw mask on).pending = s.pending ∧ (keyValue s raw mask on).snapshots = s.snapshots ∧
    (keyValue s raw mask on).streamer = s.streamer ∧ (keyValue s raw mask on).notice = s.notice ∧
    (keyValue s raw mask on).choices = s.choices := by
  unfold keyValue
  (repeat' split) <;> simp

@[simp] theorem changeErrors_frame (s : State) (p : Port) (f : PortUnit → PortUnit) :
    (changeErrors s p f).pending = s.pending ∧ (changeErrors s p f).tables = s.tables ∧
    (changeErrors s p f).store = s.store ∧ (changeErrors s p f).clock = s.clock ∧
    (changeErrors s p f).survey = s.survey ∧ (changeErrors s p f).snapshots = s.snapshots ∧
    (changeErrors s p f).management = s.management ∧ (changeErrors s p f).streamer = s.streamer ∧
    (changeErrors s p f).notice = s.notice ∧ (changeErrors s p f).retention = s.retention ∧
    (changeErrors s p f).choices = s.choices := by
  unfold changeErrors
  dsimp only
  (repeat' split) <;> simp

@[simp] theorem queueOutput_frame (s : State) (p : Port) (fs : List Frame) :
    (queueOutput s p fs).pending = s.pending ∧ (queueOutput s p fs).tables = s.tables ∧
    (queueOutput s p fs).store = s.store ∧ (queueOutput s p fs).clock = s.clock ∧
    (queueOutput s p fs).survey = s.survey ∧ (queueOutput s p fs).engine = s.engine ∧
    (queueOutput s p fs).snapshots = s.snapshots ∧ (queueOutput s p fs).management = s.management ∧
    (queueOutput s p fs).streamer = s.streamer ∧ (queueOutput s p fs).notice = s.notice ∧
    (queueOutput s p fs).retention = s.retention ∧ (queueOutput s p fs).choices = s.choices := by
  unfold queueOutput
  simp

@[simp] theorem pauseStream_frame (s : State) (p : Port) :
    (pauseStream s p).pending = s.pending ∧ (pauseStream s p).tables = s.tables ∧
    (pauseStream s p).store = s.store ∧ (pauseStream s p).clock = s.clock ∧
    (pauseStream s p).survey = s.survey ∧ (pauseStream s p).engine = s.engine ∧
    (pauseStream s p).ports = s.ports ∧ (pauseStream s p).snapshots = s.snapshots ∧
    (pauseStream s p).management = s.management ∧ (pauseStream s p).notice = s.notice ∧
    (pauseStream s p).retention = s.retention ∧ (pauseStream s p).choices = s.choices := by
  unfold pauseStream
  simp

@[simp] theorem resumeStream_frame (s : State) (p : Port) :
    (resumeStream s p).pending = s.pending ∧ (resumeStream s p).tables = s.tables ∧
    (resumeStream s p).store = s.store ∧ (resumeStream s p).clock = s.clock ∧
    (resumeStream s p).survey = s.survey ∧ (resumeStream s p).engine = s.engine ∧
    (resumeStream s p).ports = s.ports ∧ (resumeStream s p).snapshots = s.snapshots ∧
    (resumeStream s p).management = s.management ∧ (resumeStream s p).notice = s.notice ∧
    (resumeStream s p).retention = s.retention ∧ (resumeStream s p).choices = s.choices := by
  unfold resumeStream
  simp

@[simp] theorem dropWaiting_frame (s : State) (p : Port) :
    (dropWaiting s p).pending = s.pending ∧ (dropWaiting s p).tables = s.tables ∧
    (dropWaiting s p).store = s.store ∧ (dropWaiting s p).clock = s.clock ∧
    (dropWaiting s p).survey = s.survey ∧ (dropWaiting s p).engine = s.engine ∧
    (dropWaiting s p).ports = s.ports ∧ (dropWaiting s p).snapshots = s.snapshots ∧
    (dropWaiting s p).streamer = s.streamer ∧ (dropWaiting s p).notice = s.notice ∧
    (dropWaiting s p).retention = s.retention ∧ (dropWaiting s p).choices = s.choices := by
  unfold dropWaiting
  (repeat' split) <;> simp

@[simp] theorem enterBusOff_frame (s : State) (p : Port) :
    (enterBusOff s p).pending = s.pending ∧ (enterBusOff s p).clock = s.clock ∧
    (enterBusOff s p).snapshots = s.snapshots ∧ (enterBusOff s p).notice = s.notice ∧
    (enterBusOff s p).retention = s.retention ∧ (enterBusOff s p).choices = s.choices := by
  unfold enterBusOff
  simp

@[simp] theorem modAllPorts_frame (s : State) (f : PortUnit → PortRow → PortUnit) :
    (modAllPorts s f).pending = s.pending ∧ (modAllPorts s f).tables = s.tables ∧
    (modAllPorts s f).store = s.store ∧ (modAllPorts s f).clock = s.clock ∧
    (modAllPorts s f).survey = s.survey ∧ (modAllPorts s f).engine = s.engine ∧
    (modAllPorts s f).snapshots = s.snapshots ∧ (modAllPorts s f).management = s.management ∧
    (modAllPorts s f).streamer = s.streamer ∧ (modAllPorts s f).notice = s.notice ∧
    (modAllPorts s f).retention = s.retention ∧ (modAllPorts s f).choices = s.choices := by
  unfold modAllPorts
  refine ⟨by exact foldl_keeps State.pending _ (fun t b => by simp) _ _,
    by exact foldl_keeps State.tables _ (fun t b => by simp) _ _,
    by exact foldl_keeps State.store _ (fun t b => by simp) _ _,
    by exact foldl_keeps State.clock _ (fun t b => by simp) _ _,
    by exact foldl_keeps State.survey _ (fun t b => by simp) _ _,
    by exact foldl_keeps State.engine _ (fun t b => by simp) _ _,
    by exact foldl_keeps State.snapshots _ (fun t b => by simp) _ _,
    by exact foldl_keeps State.management _ (fun t b => by simp) _ _,
    by exact foldl_keeps State.streamer _ (fun t b => by simp) _ _,
    by exact foldl_keeps State.notice _ (fun t b => by simp) _ _,
    by exact foldl_keeps State.retention _ (fun t b => by simp) _ _,
    by exact foldl_keeps State.choices _ (fun t b => by simp) _ _⟩

@[simp] theorem applyPortRow_frame (s : State) (p : Port) (row : PortRow) :
    (applyPortRow s p row).pending = s.pending ∧ (applyPortRow s p row).clock = s.clock ∧
    (applyPortRow s p row).snapshots = s.snapshots ∧ (applyPortRow s p row).notice = s.notice ∧
    (applyPortRow s p row).retention = s.retention ∧ (applyPortRow s p row).choices = s.choices := by
  unfold applyPortRow
  (repeat' split) <;> simp

@[simp] theorem forwardFrame_frame (s : State) (p : Port) (f : Frame) (route : PortSet) :
    (forwardFrame s p f route).pending = s.pending ∧ (forwardFrame s p f route).tables = s.tables ∧
    (forwardFrame s p f route).store = s.store ∧ (forwardFrame s p f route).clock = s.clock ∧
    (forwardFrame s p f route).survey = s.survey ∧ (forwardFrame s p f route).engine = s.engine ∧
    (forwardFrame s p f route).snapshots = s.snapshots ∧
    (forwardFrame s p f route).management = s.management ∧
    (forwardFrame s p f route).streamer = s.streamer ∧ (forwardFrame s p f route).notice = s.notice ∧
    (forwardFrame s p f route).retention = s.retention ∧ (forwardFrame s p f route).choices = s.choices := by
  unfold forwardFrame
  refine ⟨by exact foldl_keeps State.pending _ (fun t b => by (repeat' split) <;> simp) _ _,
    by exact foldl_keeps State.tables _ (fun t b => by (repeat' split) <;> simp) _ _,
    by exact foldl_keeps State.store _ (fun t b => by (repeat' split) <;> simp) _ _,
    by exact foldl_keeps State.clock _ (fun t b => by (repeat' split) <;> simp) _ _,
    by exact foldl_keeps State.survey _ (fun t b => by (repeat' split) <;> simp) _ _,
    by exact foldl_keeps State.engine _ (fun t b => by (repeat' split) <;> simp) _ _,
    by exact foldl_keeps State.snapshots _ (fun t b => by (repeat' split) <;> simp) _ _,
    by exact foldl_keeps State.management _ (fun t b => by (repeat' split) <;> simp) _ _,
    by exact foldl_keeps State.streamer _ (fun t b => by (repeat' split) <;> simp) _ _,
    by exact foldl_keeps State.notice _ (fun t b => by (repeat' split) <;> simp) _ _,
    by exact foldl_keeps State.retention _ (fun t b => by (repeat' split) <;> simp) _ _,
    by exact foldl_keeps State.choices _ (fun t b => by (repeat' split) <;> simp) _ _⟩

@[simp] theorem countStray_frame (s : State) (p : Port) :
    (countStray s p).pending = s.pending ∧ (countStray s p).tables = s.tables ∧
    (countStray s p).store = s.store ∧ (countStray s p).clock = s.clock ∧
    (countStray s p).survey = s.survey ∧ (countStray s p).engine = s.engine ∧
    (countStray s p).snapshots = s.snapshots ∧ (countStray s p).management = s.management ∧
    (countStray s p).streamer = s.streamer ∧ (countStray s p).notice = s.notice ∧
    (countStray s p).retention = s.retention ∧ (countStray s p).choices = s.choices := by
  unfold countStray
  simp

@[simp] theorem countMalformed_frame (s : State) (p : Port) :
    (countMalformed s p).pending = s.pending ∧ (countMalformed s p).tables = s.tables ∧
    (countMalformed s p).store = s.store ∧ (countMalformed s p).clock = s.clock ∧
    (countMalformed s p).survey = s.survey ∧ (countMalformed s p).engine = s.engine ∧
    (countMalformed s p).snapshots = s.snapshots ∧ (countMalformed s p).management = s.management ∧
    (countMalformed s p).streamer = s.streamer ∧ (countMalformed s p).notice = s.notice ∧
    (countMalformed s p).retention = s.retention ∧ (countMalformed s p).choices = s.choices := by
  unfold countMalformed
  simp

@[simp] theorem takeAnnouncement_frame (s : State) (p : Port) (row : IdentRow) (data : List Byte) :
    (takeAnnouncement s p row data).pending = s.pending ∧
    (takeAnnouncement s p row data).tables = s.tables ∧ (takeAnnouncement s p row data).clock = s.clock ∧
    (takeAnnouncement s p row data).management = s.management ∧
    (takeAnnouncement s p row data).retention = s.retention ∧
    (takeAnnouncement s p row data).choices = s.choices := by
  unfold takeAnnouncement
  (repeat' split) <;> simp

@[simp] theorem giveReply_frame (s : State) (p : Port) (c : ContextNo) (d : Dialogue) (rep : Reply) :
    (giveReply s p c d rep).pending = s.pending ∧ (giveReply s p c d rep).clock = s.clock ∧
    (giveReply s p c d rep).retention = s.retention ∧ (giveReply s p c d rep).choices = s.choices := by
  unfold giveReply
  (repeat' split) <;> simp

@[simp] theorem takeReply_frame (s : State) (p : Port) (row : IdentRow) (data : List Byte) :
    (takeReply s p row data).pending = s.pending ∧ (takeReply s p row data).clock = s.clock ∧
    (takeReply s p row data).retention = s.retention ∧ (takeReply s p row data).choices = s.choices := by
  unfold takeReply
  (repeat' split) <;> simp

@[simp] theorem takeKey_frame (s : State) (p : Port) (row : IdentRow) (data : List Byte) :
    (takeKey s p row data).pending = s.pending ∧ (takeKey s p row data).snapshots = s.snapshots ∧
    (takeKey s p row data).streamer = s.streamer ∧ (takeKey s p row data).notice = s.notice ∧
    (takeKey s p row data).choices = s.choices := by
  unfold takeKey
  dsimp only
  (repeat' split) <;> simp

@[simp] theorem takeTime_frame (s : State) (p : Port) (row : IdentRow) (data : List Byte) :
    (takeTime s p row data).pending = s.pending ∧ (takeTime s p row data).tables = s.tables ∧
    (takeTime s p row data).store = s.store ∧ (takeTime s p row data).survey = s.survey ∧
    (takeTime s p row data).engine = s.engine ∧ (takeTime s p row data).snapshots = s.snapshots ∧
    (takeTime s p row data).management = s.management ∧ (takeTime s p row data).streamer = s.streamer ∧
    (takeTime s p row data).notice = s.notice ∧ (takeTime s p row data).retention = s.retention ∧
    (takeTime s p row data).choices = s.choices := by
  unfold takeTime
  dsimp only
  (repeat' split) <;> simp

@[simp] theorem takeRequest_frame (s : State) (p : Port) (data : List Byte) :
    (takeRequest s p data).pending = s.pending ∧ (takeRequest s p data).tables = s.tables ∧
    (takeRequest s p data).store = s.store ∧ (takeRequest s p data).clock = s.clock ∧
    (takeRequest s p data).survey = s.survey ∧ (takeRequest s p data).engine = s.engine ∧
    (takeRequest s p data).snapshots = s.snapshots ∧ (takeRequest s p data).streamer = s.streamer ∧
    (takeRequest s p data).notice = s.notice ∧ (takeRequest s p data).retention = s.retention ∧
    (takeRequest s p data).choices = s.choices := by
  unfold takeRequest
  (repeat' split) <;> simp

@[simp] theorem takeManage_frame (s : State) (p : Port) (data : List Byte) :
    (takeManage s p data).pending = s.pending ∧ (takeManage s p data).tables = s.tables ∧
    (takeManage s p data).store = s.store ∧ (takeManage s p data).clock = s.clock ∧
    (takeManage s p data).survey = s.survey ∧ (takeManage s p data).engine = s.engine ∧
    (takeManage s p data).snapshots = s.snapshots ∧ (takeManage s p data).streamer = s.streamer ∧
    (takeManage s p data).notice = s.notice ∧ (takeManage s p data).retention = s.retention ∧
    (takeManage s p data).choices = s.choices := by
  unfold takeManage
  (repeat' split) <;> simp

@[simp] theorem handOn_frame (s : State) (p : Port) (f : Frame) (row : IdentRow) :
    (handOn s p f row).pending = s.pending ∧ (handOn s p f row).choices = s.choices := by
  unfold handOn
  (repeat' split) <;> simp

@[simp] theorem takeNewestTrigger_frame (s : State) :
    (takeNewestTrigger s).pending = s.pending ∧ (takeNewestTrigger s).tables = s.tables ∧
    (takeNewestTrigger s).clock = s.clock ∧ (takeNewestTrigger s).survey = s.survey ∧
    (takeNewestTrigger s).engine = s.engine ∧ (takeNewestTrigger s).ports = s.ports ∧
    (takeNewestTrigger s).management = s.management ∧ (takeNewestTrigger s).streamer = s.streamer ∧
    (takeNewestTrigger s).notice = s.notice ∧ (takeNewestTrigger s).retention = s.retention ∧
    (takeNewestTrigger s).choices = s.choices := by
  unfold takeNewestTrigger
  (repeat' split) <;> simp

@[simp] theorem ringStep_frame (s : State) (before : Nat) (p : Port) (x : RingFrame) :
    (ringStep s before p x).pending = s.pending ∧ (ringStep s before p x).tables = s.tables ∧
    (ringStep s before p x).clock = s.clock ∧ (ringStep s before p x).survey = s.survey ∧
    (ringStep s before p x).engine = s.engine ∧ (ringStep s before p x).ports = s.ports ∧
    (ringStep s before p x).management = s.management ∧ (ringStep s before p x).streamer = s.streamer ∧
    (ringStep s before p x).notice = s.notice ∧ (ringStep s before p x).retention = s.retention := by
  unfold ringStep
  (repeat' split) <;> simp

@[simp] theorem arrivalLowersRec_frame (s : State) (p : Port) :
    (arrivalLowersRec s p).pending = s.pending ∧ (arrivalLowersRec s p).tables = s.tables ∧
    (arrivalLowersRec s p).store = s.store ∧ (arrivalLowersRec s p).clock = s.clock ∧
    (arrivalLowersRec s p).survey = s.survey ∧ (arrivalLowersRec s p).snapshots = s.snapshots ∧
    (arrivalLowersRec s p).management = s.management ∧ (arrivalLowersRec s p).streamer = s.streamer ∧
    (arrivalLowersRec s p).notice = s.notice ∧ (arrivalLowersRec s p).retention = s.retention ∧
    (arrivalLowersRec s p).choices = s.choices := by
  unfold arrivalLowersRec
  (repeat' split) <;> simp

@[simp] theorem takeArrival_frame (s : State) (p : Port) (f : Frame) :
    (takeArrival s p f).pending = s.pending := by
  unfold takeArrival
  dsimp only
  (repeat' split) <;> simp

@[simp] theorem querySent_frame (s : State) (q : Query) :
    (querySent s q).pending = s.pending ∧ (querySent s q).tables = s.tables ∧
    (querySent s q).store = s.store ∧ (querySent s q).clock = s.clock ∧ (querySent s q).survey = s.survey ∧
    (querySent s q).ports = s.ports ∧ (querySent s q).snapshots = s.snapshots ∧
    (querySent s q).management = s.management ∧ (querySent s q).streamer = s.streamer ∧
    (querySent s q).notice = s.notice ∧ (querySent s q).retention = s.retention ∧
    (querySent s q).choices = s.choices := by
  unfold querySent
  (repeat' split) <;> simp

@[simp] theorem tellSource_frame (s : State) (x : TxFrame) :
    (tellSource s x).pending = s.pending ∧ (tellSource s x).tables = s.tables ∧
    (tellSource s x).store = s.store ∧ (tellSource s x).clock = s.clock ∧
    (tellSource s x).survey = s.survey ∧ (tellSource s x).ports = s.ports ∧
    (tellSource s x).snapshots = s.snapshots ∧ (tellSource s x).management = s.management ∧
    (tellSource s x).streamer = s.streamer ∧ (tellSource s x).notice = s.notice ∧
    (tellSource s x).retention = s.retention ∧ (tellSource s x).choices = s.choices := by
  unfold tellSource
  (repeat' split) <;> simp

@[simp] theorem frameSent_frame (s : State) (p : Port) :
    (frameSent s p).pending = s.pending ∧ (frameSent s p).tables = s.tables ∧
    (frameSent s p).store = s.store ∧ (frameSent s p).clock = s.clock ∧ (frameSent s p).survey = s.survey ∧
    (frameSent s p).snapshots = s.snapshots ∧ (frameSent s p).management = s.management ∧
    (frameSent s p).streamer = s.streamer ∧ (frameSent s p).notice = s.notice ∧
    (frameSent s p).retention = s.retention ∧ (frameSent s p).choices = s.choices := by
  unfold frameSent
  (repeat' split) <;> simp

@[simp] theorem frameFailed_frame (s : State) (p : Port) :
    (frameFailed s p).pending = s.pending ∧ (frameFailed s p).clock = s.clock ∧
    (frameFailed s p).snapshots = s.snapshots ∧ (frameFailed s p).notice = s.notice ∧
    (frameFailed s p).retention = s.retention ∧ (frameFailed s p).choices = s.choices := by
  unfold frameFailed
  (repeat' split) <;> simp

@[simp] theorem respond_frame (s : State) (p : Port) (frames : List (List Byte)) :
    (respond s p frames).pending = s.pending ∧ (respond s p frames).tables = s.tables ∧
    (respond s p frames).store = s.store ∧ (respond s p frames).clock = s.clock ∧
    (respond s p frames).survey = s.survey ∧ (respond s p frames).engine = s.engine ∧
    (respond s p frames).snapshots = s.snapshots ∧ (respond s p frames).streamer = s.streamer ∧
    (respond s p frames).notice = s.notice ∧ (respond s p frames).retention = s.retention ∧
    (respond s p frames).choices = s.choices := by
  unfold respond
  simp

@[simp] theorem commitClockSource_frame (s : State) (old new : ClockSource) :
    (commitClockSource s old new).pending = s.pending ∧ (commitClockSource s old new).tables = s.tables ∧
    (commitClockSource s old new).store = s.store ∧ (commitClockSource s old new).survey = s.survey ∧
    (commitClockSource s old new).engine = s.engine ∧ (commitClockSource s old new).ports = s.ports ∧
    (commitClockSource s old new).snapshots = s.snapshots ∧
    (commitClockSource s old new).management = s.management ∧
    (commitClockSource s old new).streamer = s.streamer ∧ (commitClockSource s old new).notice = s.notice ∧
    (commitClockSource s old new).retention = s.retention ∧
    (commitClockSource s old new).choices = s.choices := by
  unfold commitClockSource
  (repeat' split) <;> simp

@[simp] theorem commitKeySource_frame (s : State) (old new : KeySource) :
    (commitKeySource s old new).pending = s.pending ∧ (commitKeySource s old new).tables = s.tables ∧
    (commitKeySource s old new).store = s.store ∧ (commitKeySource s old new).ports = s.ports ∧
    (commitKeySource s old new).snapshots = s.snapshots ∧
    (commitKeySource s old new).management = s.management ∧
    (commitKeySource s old new).streamer = s.streamer ∧ (commitKeySource s old new).notice = s.notice ∧
    (commitKeySource s old new).choices = s.choices := by
  unfold commitKeySource
  dsimp only
  (repeat' split) <;> simp

@[simp] theorem applyGeneral_frame (s : State) (row : GeneralRow) :
    (applyGeneral s row).pending = s.pending ∧ (applyGeneral s row).store = s.store ∧
    (applyGeneral s row).ports = s.ports ∧ (applyGeneral s row).snapshots = s.snapshots ∧
    (applyGeneral s row).management = s.management ∧ (applyGeneral s row).streamer = s.streamer ∧
    (applyGeneral s row).notice = s.notice ∧ (applyGeneral s row).choices = s.choices := by
  unfold applyGeneral
  simp

@[simp] theorem stopSurvey_frame (s : State) :
    (stopSurvey s).pending = s.pending ∧ (stopSurvey s).clock = s.clock ∧
    (stopSurvey s).snapshots = s.snapshots ∧ (stopSurvey s).streamer = s.streamer ∧
    (stopSurvey s).notice = s.notice ∧ (stopSurvey s).retention = s.retention ∧
    (stopSurvey s).choices = s.choices := by
  unfold stopSurvey
  simp

@[simp] theorem softReset_frame (s : State) :
    (softReset s).pending = s.pending ∧ (softReset s).clock = s.clock ∧ (softReset s).notice = s.notice ∧
    (softReset s).retention = s.retention ∧ (softReset s).choices = s.choices := by
  unfold softReset
  simp

@[simp] theorem startSurvey_frame (s : State) (mode : SurveyMode) :
    (startSurvey s mode).pending = s.pending ∧ (startSurvey s mode).store = s.store ∧
    (startSurvey s mode).clock = s.clock ∧ (startSurvey s mode).ports = s.ports ∧
    (startSurvey s mode).snapshots = s.snapshots ∧ (startSurvey s mode).management = s.management ∧
    (startSurvey s mode).streamer = s.streamer ∧ (startSurvey s mode).notice = s.notice ∧
    (startSurvey s mode).retention = s.retention ∧ (startSurvey s mode).choices = s.choices := by
  unfold startSurvey
  dsimp only
  (repeat' split) <;> simp

@[simp] theorem queueHeld_frame (s : State) :
    (queueHeld s).pending = s.pending ∧ (queueHeld s).tables = s.tables ∧ (queueHeld s).store = s.store ∧
    (queueHeld s).clock = s.clock ∧ (queueHeld s).survey = s.survey ∧ (queueHeld s).engine = s.engine ∧
    (queueHeld s).snapshots = s.snapshots ∧ (queueHeld s).streamer = s.streamer ∧
    (queueHeld s).notice = s.notice ∧ (queueHeld s).retention = s.retention ∧
    (queueHeld s).choices = s.choices := by
  unfold queueHeld
  (repeat' split) <;> simp

@[simp] theorem exportEntry_frame (s : State) (e : Entry) :
    (exportEntry s e).pending = s.pending ∧ (exportEntry s e).tables = s.tables ∧
    (exportEntry s e).clock = s.clock ∧ (exportEntry s e).survey = s.survey ∧
    (exportEntry s e).engine = s.engine ∧ (exportEntry s e).snapshots = s.snapshots ∧
    (exportEntry s e).management = s.management ∧ (exportEntry s e).notice = s.notice ∧
    (exportEntry s e).retention = s.retention ∧ (exportEntry s e).choices = s.choices := by
  unfold exportEntry
  (repeat' split) <;> simp

@[simp] theorem endExport_frame (s : State) :
    (endExport s).pending = s.pending ∧ (endExport s).tables = s.tables ∧ (endExport s).store = s.store ∧
    (endExport s).clock = s.clock ∧ (endExport s).survey = s.survey ∧ (endExport s).engine = s.engine ∧
    (endExport s).snapshots = s.snapshots ∧ (endExport s).management = s.management ∧
    (endExport s).notice = s.notice ∧ (endExport s).retention = s.retention ∧
    (endExport s).choices = s.choices := by
  unfold endExport
  simp

@[simp] theorem endSnapshot_frame (s : State) (complete : Bool) :
    (endSnapshot s complete).pending = s.pending ∧ (endSnapshot s complete).tables = s.tables ∧
    (endSnapshot s complete).store = s.store ∧ (endSnapshot s complete).clock = s.clock ∧
    (endSnapshot s complete).survey = s.survey ∧ (endSnapshot s complete).engine = s.engine ∧
    (endSnapshot s complete).management = s.management ∧ (endSnapshot s complete).notice = s.notice ∧
    (endSnapshot s complete).retention = s.retention ∧ (endSnapshot s complete).choices = s.choices := by
  unfold endSnapshot
  (repeat' split) <;> simp

@[simp] theorem snapshotFrame_frame (s : State) (x : RingFrame) :
    (snapshotFrame s x).pending = s.pending ∧ (snapshotFrame s x).tables = s.tables ∧
    (snapshotFrame s x).store = s.store ∧ (snapshotFrame s x).clock = s.clock ∧
    (snapshotFrame s x).survey = s.survey ∧ (snapshotFrame s x).engine = s.engine ∧
    (snapshotFrame s x).snapshots = s.snapshots ∧ (snapshotFrame s x).management = s.management ∧
    (snapshotFrame s x).notice = s.notice ∧ (snapshotFrame s x).retention = s.retention ∧
    (snapshotFrame s x).choices = s.choices := by
  unfold snapshotFrame
  simp

@[simp] theorem lookExport_frame (s : State) :
    (lookExport s).pending = s.pending ∧ (lookExport s).tables = s.tables ∧ (lookExport s).clock = s.clock ∧
    (lookExport s).survey = s.survey ∧ (lookExport s).engine = s.engine ∧
    (lookExport s).snapshots = s.snapshots ∧ (lookExport s).management = s.management ∧
    (lookExport s).notice = s.notice ∧ (lookExport s).retention = s.retention ∧
    (lookExport s).choices = s.choices := by
  unfold lookExport
  (repeat' split) <;> simp

@[simp] theorem lookSnapshot_frame (s : State) :
    (lookSnapshot s).pending = s.pending ∧ (lookSnapshot s).tables = s.tables ∧
    (lookSnapshot s).store = s.store ∧ (lookSnapshot s).clock = s.clock ∧
    (lookSnapshot s).survey = s.survey ∧ (lookSnapshot s).engine = s.engine ∧
    (lookSnapshot s).management = s.management ∧ (lookSnapshot s).notice = s.notice ∧
    (lookSnapshot s).retention = s.retention ∧ (lookSnapshot s).choices = s.choices := by
  unfold lookSnapshot
  dsimp only
  (repeat' split) <;> simp

@[simp] theorem queueNotice_frame (s : State) :
    (queueNotice s).pending = s.pending ∧ (queueNotice s).tables = s.tables ∧
    (queueNotice s).store = s.store ∧ (queueNotice s).clock = s.clock ∧ (queueNotice s).survey = s.survey ∧
    (queueNotice s).engine = s.engine ∧ (queueNotice s).snapshots = s.snapshots ∧
    (queueNotice s).management = s.management ∧ (queueNotice s).streamer = s.streamer ∧
    (queueNotice s).retention = s.retention ∧ (queueNotice s).choices = s.choices := by
  unfold queueNotice
  (repeat' split) <;> simp

@[simp] theorem keyOnAtStart_frame (s : State) :
    (keyOnAtStart s).pending = s.pending ∧ (keyOnAtStart s).tables = s.tables ∧
    (keyOnAtStart s).store = s.store ∧ (keyOnAtStart s).ports = s.ports ∧
    (keyOnAtStart s).snapshots = s.snapshots ∧ (keyOnAtStart s).management = s.management ∧
    (keyOnAtStart s).streamer = s.streamer ∧ (keyOnAtStart s).notice = s.notice ∧
    (keyOnAtStart s).choices = s.choices := by
  unfold keyOnAtStart
  (repeat' split) <;> simp

@[simp] theorem enterSleep_frame (s : State) :
    (enterSleep s).pending = s.pending ∧ (enterSleep s).tables = s.tables ∧ (enterSleep s).store = s.store ∧
    (enterSleep s).engine = s.engine ∧ (enterSleep s).streamer = s.streamer ∧
    (enterSleep s).notice = s.notice ∧ (enterSleep s).choices = s.choices := by
  unfold enterSleep
  simp

@[simp] theorem wakeUp_frame (s : State) :
    (wakeUp s).pending = s.pending ∧ (wakeUp s).tables = s.tables ∧ (wakeUp s).store = s.store ∧
    (wakeUp s).notice = s.notice ∧ (wakeUp s).choices = s.choices := by
  unfold wakeUp
  simp

end Sys2Proof.Machine
end

