-- ==== Sys2Proof/Laws/Arbiter.lean ====
section
/-! SUPPORT. What the checks of the context arbiter can do: set yield-pending flags, and nothing else (R94,
R95). -/

namespace Sys2Proof.Machine

/-- The dialogue asked to yield. -/
abbrev Dialogue.yielding (d : Dialogue) : Dialogue := { d with yieldPending := true }

theorem State.YieldOnly.refl (s : State) : s.YieldOnly s := ⟨rfl, fun _ => .inl rfl⟩

theorem State.YieldOnly.trans {s t u : State} (h : s.YieldOnly t) (k : t.YieldOnly u) : s.YieldOnly u := by
  refine ⟨?_, fun c => ?_⟩
  · rw [k.1, h.1]
  · rcases k.2 c with hu | hu <;> rcases h.2 c with ht | ht <;> rw [hu, ht] <;>
      simp [Option.map_map, Function.comp_def]

/-- What `YieldOnly` leaves, one component at a time. -/
theorem State.YieldOnly.fields {s t : State} (h : s.YieldOnly t) :
    t.pending = s.pending ∧ t.tables = s.tables ∧ t.store = s.store ∧ t.clock = s.clock ∧
    t.survey = s.survey ∧ t.ports = s.ports ∧ t.snapshots = s.snapshots ∧
    t.management = s.management ∧ t.streamer = s.streamer ∧ t.notice = s.notice ∧
    t.retention = s.retention ∧ t.choices = s.choices ∧ t.engine.lastGranted = s.engine.lastGranted ∧
    t.engine.grants = s.engine.grants := by
  rw [h.1]; simp

theorem askToYield_yieldOnly (s : State) (c : ContextNo) : s.YieldOnly (s.askToYield c) := by
  refine ⟨rfl, fun c' => ?_⟩
  rw [State.askToYield, State.modDialogue_context]
  split
  · exact .inr rfl
  · exact .inl rfl

theorem maxRunCheck_yieldOnly (s : State) (c : ContextNo) : s.YieldOnly (maxRunCheck s c) := by
  unfold maxRunCheck
  split
  · split
    · exact askToYield_yieldOnly s c
    · exact .refl s
  · exact .refl s

/-- A fold of steps that each set yield-pending flags only. -/
theorem foldl_yieldOnly {β : Type} (f : State → β → State) (h : ∀ (s : State) b, s.YieldOnly (f s b)) (l : List β) :
    ∀ s : State, s.YieldOnly (l.foldl f s) := by
  induction l with
  | nil => exact fun s => .refl s
  | cons b l ih => exact fun s => (h s b).trans (ih (f s b))

theorem maxRunChecks_yieldOnly (s : State) (p : Port) : s.YieldOnly (maxRunChecks s p) :=
  foldl_yieldOnly _ maxRunCheck_yieldOnly _ s

theorem preemptionCheck_yieldOnly (s : State) : s.YieldOnly (preemptionCheck s) := by
  unfold preemptionCheck
  split
  · exact askToYield_yieldOnly s _
  · exact .refl s

theorem lookCheck_yieldOnly (s : State) : s.YieldOnly (lookCheck s) := by
  unfold lookCheck
  split
  · exact .refl s
  · exact preemptionCheck_yieldOnly s

theorem settleLook_yieldOnly (s before : State) : s.YieldOnly (settleLook s before) := by
  unfold settleLook
  split
  · exact preemptionCheck_yieldOnly s
  · exact .refl s

/-- A change of TEC or REC changes the port, its state with it, and what a look of the arbiter may. -/
theorem changeErrors_yieldOnly (s : State) (p : Port) (f : PortUnit → PortUnit) :
    (s.modPort p fun u => { f u with state := (f u).confined }).YieldOnly (changeErrors s p f) := by
  unfold changeErrors
  dsimp only
  split
  · exact .refl _
  · exact lookCheck_yieldOnly _

end Sys2Proof.Machine
end

