-- ==== Sys2Proof/Laws/Checks.lean ====
section
/-! SUPPORT. The properties of Sys2Proof/Safety.lean in a form that `decide` can evaluate, so that the tests
can show concrete states that meet them. -/

namespace Sys2Proof.Laws

open Sys2Proof.Machine

/-- An optional value is absent or has the property. -/
abbrev each {α : Type} (o : Option α) (q : α → Bool) : Bool :=
  match o with
  | none => true
  | some x => q x

theorem of_each {α : Type} {o : Option α} {q : α → Bool} (h : each o q = true) : ∀ x, o = some x → q x = true := by
  rintro x rfl; exact h

/-- An optional value is present and has the property. -/
abbrev holds {α : Type} (o : Option α) (q : α → Bool) : Bool :=
  match o with
  | none => false
  | some x => q x

theorem of_holds {α : Type} {o : Option α} {q : α → Bool} (h : holds o q = true) : ∃ x, o = some x ∧ q x = true := by
  cases o with
  | none => exact absurd h (by simp [holds])
  | some x => exact ⟨x, rfl, h⟩

/-! ### Tables, store, clock and ports -/

def tablesCheck (t : Tables) : Bool :=
  decide ((∀ st, (t.stations.get st).ok 65536 = true) ∧ (∀ d, (t.formats.get d).ok = true) ∧
    (∀ p, (t.ports.get p).ok p = true) ∧ t.general.ok = true)

theorem tables_of_check {t : Tables} (h : tablesCheck t = true) : t.Ok := (of_decide_eq_true h :)

def pendingRowCheck : PendingCommit → Bool
  | .station _ row => row.ok 65536
  | .format _ row => row.ok

theorem tablesOk_of_check {s : State} (h : tablesCheck s.tables = true) (i : tablesCheck s.retention.image.tables = true)
    (p : each s.management.pendingCommit pendingRowCheck = true) : TablesOk s := by
  refine ⟨tables_of_check h, tables_of_check i, fun pc hp => ?_⟩
  have := of_each p pc hp
  cases pc <;> exact this

def entryCheck (next : Nat) (e : Entry) : Bool :=
  decide (1 ≤ e.seq ∧ e.seq < next ∧ e.code ≤ 16777215 ∧ e.peak ≤ 7 ∧ 1 ≤ e.total ∧ e.total ≤ 65535) &&
    each e.last fun x => decide ((x.m = 256 ∨ x.m = 65536) ∧ x.l < x.m ∧ 1 ≤ x.g ∧ x.g < x.m)

def storeCheck (st : Store) : Bool :=
  decide (st.entries.length ≤ 512) && decide ((st.entries.map Entry.seq).Pairwise (· < ·)) &&
    st.entries.all (entryCheck st.nextSeq) &&
    decide ((st.entries.map fun e => (e.station, e.code)).Nodup) &&
    decide (1 ≤ st.nextSeq ∧ st.nextSeq ≤ 4294967295 ∧ st.evictions ≤ 65535 ∧ st.refusals ≤ 65535)

theorem entries_of_check {n : Nat} {es : List Entry} (h : es.all (entryCheck n) = true) :
    ∀ e ∈ es, 1 ≤ e.seq ∧ e.seq < n ∧ e.InRange := by
  intro e he
  have := List.all_eq_true.1 h e he
  simp only [entryCheck, Bool.and_eq_true, decide_eq_true_eq] at this
  obtain ⟨⟨a, b, c, d, f, g⟩, l⟩ := this
  exact ⟨a, b, c, d, f, g, fun x hx => of_decide_eq_true (of_each l x hx)⟩

theorem store_of_check {st : Store} (h : storeCheck st = true) : st.Ok := by
  simp only [storeCheck, Bool.and_eq_true, decide_eq_true_eq] at h
  obtain ⟨⟨⟨⟨a, b⟩, c⟩, d⟩, e⟩ := h
  exact ⟨a, b, entries_of_check c, d, e⟩

def portCheck (u : PortUnit) : Bool :=
  decide (u.txErrors ≤ 263 ∧ u.rxErrors ≤ 255 ∧ u.drops ≤ 65535 ∧ u.strays ≤ 65535 ∧ u.malformed ≤ 65535 ∧
    u.busOffs ≤ 65535 ∧ u.forward.length ≤ 24 ∧ u.output.length ≤ 8 ∧
    (u.state.serves = false → u.tx = none ∧ u.forward = [] ∧ u.harvest = []) ∧
    (u.state = .busOff → u.output = []) ∧
    (u.state = .active → u.txErrors < 128 ∧ u.rxErrors < 128) ∧
    (u.state = .passive → 128 ≤ u.txErrors ∨ 128 ≤ u.rxErrors) ∧
    (u.state ≠ .busOff → u.txErrors < 256))

theorem ports_of_check {s : State}
    (h : ∀ p, portCheck (s.port p) = true ∧ ((s.port p).state = .off ↔ (s.portRow p).enable = false)) :
    PortsOk s := fun p => ⟨(of_decide_eq_true (h p).1 :), (h p).2⟩

/-! ### Contexts -/

def bindingsCheck (s : State) : Bool :=
  decide (∀ st, (s.station st).run = .engaged ↔
      ∃ c, holds (s.context c) (fun d => decide (d.station = st)) = true) &&
    decide (∀ c c', each (s.context c) (fun d => each (s.context c') fun d' =>
      decide (d.station = d'.station → c = c')) = true) &&
    decide (∀ p, (s.contextsOf p).length ≤ 2)

theorem bindings_of_check {s : State} (h : bindingsCheck s = true) : BindingsOk s := by
  simp only [bindingsCheck, Bool.and_eq_true, decide_eq_true_eq] at h
  obtain ⟨⟨a, b⟩, c⟩ := h
  refine ⟨fun st => ?_, fun x x' d d' hx hx' => of_decide_eq_true (of_each (of_each (b x x') d hx) d' hx'), c⟩
  rw [a st]
  constructor
  · rintro ⟨x, hx⟩
    obtain ⟨d, hd, e⟩ := of_holds hx
    exact ⟨x, d, hd, of_decide_eq_true e⟩
  · rintro ⟨x, d, hd, e⟩
    exact ⟨x, by simp [holds, hd, e]⟩

def dialogueCheck (d : Dialogue) : Bool :=
  (d.waitTimer.isSome == decide (d.phase ≠ .sending)) &&
    (decide (d.phase ≠ .receiving) || holds d.n fun n => decide (d.expected < d.windowEnd ∧ d.windowEnd ≤ n)) &&
    decide ((1 ≤ d.run → d.n.isSome = true) ∧ (d.yieldPending = true → 1 ≤ d.run) ∧
      (d.resumeN.isSome = true ↔ d.origin = .resumed ∧ d.n = none) ∧
      d.retries ≤ 7 ∧ d.run ≤ 65535 ∧ d.expected ≤ 65535) &&
    each d.n fun n => decide (n ≤ 65535)

theorem dialogue_of_check {d : Dialogue} (h : dialogueCheck d = true) : d.Ok := by
  simp only [dialogueCheck, Bool.and_eq_true, Bool.or_eq_true, decide_eq_true_eq, beq_iff_eq] at h
  obtain ⟨⟨⟨a, b⟩, c1, c2, c3, c4, c5, c6⟩, e⟩ := h
  refine ⟨a, fun hp => ?_, c1, c2, c3, c4, c5, c6, fun n hn => of_decide_eq_true (of_each e n hn)⟩
  rcases b with b | b
  · exact absurd hp b
  · obtain ⟨n, hn, hb⟩ := of_holds b
    exact ⟨n, hn, (of_decide_eq_true hb).1, (of_decide_eq_true hb).2⟩

def stationCheck (x : StationState) : Bool :=
  decide (x.failures ≤ 15) && each x.resume (fun r => decide (r.next ≤ 65535 ∧ r.n ≤ 65535)) &&
    each x.lastComplete fun c => decide (c ≤ 4294967295)

theorem station_of_check {x : StationState} (h : stationCheck x = true) : x.Ok := by
  simp only [stationCheck, Bool.and_eq_true, decide_eq_true_eq] at h
  obtain ⟨⟨a, b⟩, c⟩ := h
  exact ⟨a, fun r hr => of_decide_eq_true (of_each b r hr), fun r hr => of_decide_eq_true (of_each c r hr)⟩

def liveCheck (s : State) (p : Port) (q : Query) : Bool :=
  holds (s.context q.context) fun d =>
    decide (d.phase = .sending ∧ d.grantTag = q.grantTag ∧ s.dialoguePort d = p)

theorem live_of_check {s : State} {p : Port} {q : Query} (h : liveCheck s p q = true) : s.queryLive p q := by
  obtain ⟨d, hd, e⟩ := of_holds h
  exact ⟨d, hd, of_decide_eq_true e⟩

/-- The query in a transmitter. -/
def txQuery (u : PortUnit) : Option Query :=
  match u.tx with
  | some (.query q) => some q
  | some (.forwarded _) => none
  | some (.management _) => none
  | none => none

theorem txQuery_of {u : PortUnit} {q : Query} (h : u.tx = some (.query q)) : txQuery u = some q := by
  simp [txQuery, h]

theorem of_txQuery {u : PortUnit} {q : Query} (h : txQuery u = some q) : u.tx = some (.query q) := by
  unfold txQuery at h
  split at h <;> simp_all

def harvestCheck (s : State) : Bool :=
  decide (∀ p, ((s.port p).harvest.map Query.context).Nodup ∧
      (∀ q ∈ (s.port p).harvest, liveCheck s p q = true) ∧
      each (txQuery (s.port p)) (fun q => decide (q.grantTag < s.engine.grants) &&
        each (s.context q.context) fun d => decide (d.grantTag = q.grantTag →
          liveCheck s p q = true ∧ ∀ q' ∈ (s.port p).harvest, q'.context ≠ q.context)) = true) &&
    decide (∀ c, each (s.context c) (fun d => decide (d.grantTag < s.engine.grants ∧
      (d.phase = .sending →
        (∃ q ∈ (s.port (s.dialoguePort d)).harvest, q.context = c ∧ q.grantTag = d.grantTag) ∨
          holds (txQuery (s.port (s.dialoguePort d)))
            (fun q => decide (q.context = c ∧ q.grantTag = d.grantTag)) = true))) = true)

theorem harvest_of_check {s : State} (h : harvestCheck s = true) : HarvestOk s := by
  simp only [harvestCheck, Bool.and_eq_true, decide_eq_true_eq] at h
  obtain ⟨a, b⟩ := h
  refine ⟨fun p => ⟨(a p).1, fun q hq => live_of_check ((a p).2.1 q hq), fun q hq => ?_⟩, fun c d hd => ?_⟩
  · have := of_each (a p).2.2 q (txQuery_of hq)
    simp only [Bool.and_eq_true, decide_eq_true_eq] at this
    refine ⟨this.1, fun d hd e => ?_⟩
    have := of_decide_eq_true (of_each this.2 d hd) e
    exact ⟨live_of_check this.1, this.2⟩
  · have := of_decide_eq_true (of_each (b c) d hd)
    refine ⟨this.1, fun hp => ?_⟩
    rcases this.2 hp with ⟨q, hq, h1, h2⟩ | hq
    · exact ⟨q, h1, h2, .inl hq⟩
    · obtain ⟨q, hq, e⟩ := of_holds hq
      exact ⟨q, (of_decide_eq_true e).1, (of_decide_eq_true e).2, .inr (of_txQuery hq)⟩

/-! ### Slots -/

def slotsCheck (s : State) : Bool :=
  decide (∀ i, (s.slot i).state ≠ .free →
      ∃ e ∈ s.store.entries, (s.slot i).owner = some e.seq ∧ e.slot = some i) &&
    s.store.entries.all (fun e => each e.slot fun i =>
      decide ((s.slot i).state ≠ .free ∧ (s.slot i).owner = some e.seq)) &&
    decide (∀ i, ((s.slot i).state = .free → s.slot i = Slot.freed) ∧ (s.slot i).pre.length ≤ 12 ∧
      (s.slot i).target ≤ 4 ∧ (s.slot i).post.length ≤ (s.slot i).target ∧
      ((s.slot i).state = .filling ↔ (s.slot i).timer.isSome = true) ∧
      ((s.slot i).state = .filling → (s.slot i).post.length < (s.slot i).target))

theorem slots_of_check {s : State} (h : slotsCheck s = true) : SlotsOk s := by
  simp only [slotsCheck, Bool.and_eq_true] at h
  obtain ⟨⟨a, b⟩, c⟩ := h
  exact ⟨of_decide_eq_true a, fun e he i hi => of_decide_eq_true (of_each (List.all_eq_true.1 b e he) i hi),
    of_decide_eq_true c⟩

/-! ### All of it -/

/-- The properties that need no more than evaluation. -/
def restCheck (s : State) : Bool :=
  decide (s.clock.c ≤ 4294967295 ∧ s.clock.ms ≤ 999 ∧ s.clock.k ≤ 65535 ∧ s.clock.hold = s.clock.holdTimer.isSome) &&
    decide ((∀ st, ((s.station st).run = .due ↔ st ∈ (s.due (s.stationRow st).homePort).urgent ∨
        st ∈ (s.due (s.stationRow st).homePort).normal) ∧
      ((s.station st).urgent = true ↔ st ∈ (s.due (s.stationRow st).homePort).urgent)) ∧
      (∀ p, ∀ st ∈ (s.due p).urgent ++ (s.due p).normal, (s.stationRow st).homePort = p) ∧
      ∀ p, ((s.due p).urgent ++ (s.due p).normal).Nodup) &&
    decide (∀ p, (s.ring p).length ≤ 12) &&
    decide ((s.survey.state = .running → s.clock.key = .on) ∧
      (s.survey.state = .running ↔ s.survey.tick.isSome = true) ∧
      (s.survey.state = .running → s.survey.endDue = false → s.survey.roundTimer < 65535) ∧
      s.survey.roundTimer ≤ 65535 ∧ s.survey.roundNumber ≤ 65535) &&
    decide (s.management.overruns ≤ 255 ∧ s.streamer.sent ≤ 65535 ∧ s.notice.count ≤ 255 ∧
      (s.notice.count ≠ 0 → s.notice.latest.isSome = true)) &&
    decide (s.streamer.state ≠ .idle → s.streamer.kind = .snapshot → s.streamer.slotLost = false →
      (s.slot s.streamer.slot).state ≠ .free ∧
      (s.slot s.streamer.slot).owner = some s.streamer.owner ∧
      (s.slot s.streamer.slot).read = false ∧
      s.streamer.total ≤ (s.slot s.streamer.slot).pre.length + (s.slot s.streamer.slot).post.length ∧
      s.streamer.sent ≤ s.streamer.total) &&
    decide (s.retention.power = .run) && decide (∀ p, (s.port p).state ≠ .dormant) && !s.readyToSleep

/-- Everything that makes a state in RUN one that is in order. -/
def invCheck (s : State) : Bool :=
  tablesCheck s.tables && tablesCheck s.retention.image.tables &&
    each s.management.pendingCommit (fun pc => pendingRowCheck pc && s.commitWaits pc) &&
    storeCheck s.store && storeCheck s.retention.image.store &&
    decide (∀ p, portCheck (s.port p) = true ∧ ((s.port p).state = .off ↔ (s.portRow p).enable = false)) &&
    bindingsCheck s &&
    decide (∀ c, each (s.context c) (fun d =>
      (s.port (s.dialoguePort d)).state.serves && dialogueCheck d) = true) &&
    decide (∀ st, stationCheck (s.station st) = true) && harvestCheck s && slotsCheck s && restCheck s

/-- A state in RUN that passes the checks is in order. -/
theorem inv_of_check {s : State} (h : invCheck s = true) : s.Inv := by
  simp only [invCheck, Bool.and_eq_true] at h
  obtain ⟨⟨⟨⟨⟨⟨⟨⟨⟨⟨⟨ht, hi⟩, hp⟩, hs⟩, his⟩, hpo⟩, hb⟩, hd⟩, hst⟩, hh⟩, hsl⟩, hr⟩ := h
  simp only [restCheck, Bool.and_eq_true] at hr
  obtain ⟨⟨⟨⟨⟨⟨⟨⟨rc, rd⟩, rr⟩, rs⟩, rn⟩, rt⟩, rp⟩, ra⟩, rw⟩ := hr
  have hd := of_decide_eq_true hd
  have rd := of_decide_eq_true rd
  have rp := of_decide_eq_true rp
  have hp := of_each hp
  exact
    { tables := tablesOk_of_check ht hi (by
        cases hq : s.management.pendingCommit with
        | none => rfl
        | some pc => exact (Bool.and_eq_true _ _ ▸ hp pc hq).1)
      store := ⟨store_of_check hs, store_of_check his⟩
      clock := (of_decide_eq_true rc :)
      ports := ports_of_check (of_decide_eq_true hpo)
      due := ⟨rd.1, fun p st hm => rd.2.1 p st (List.mem_append.2 hm), rd.2.2⟩
      bindings := bindings_of_check hb
      waiting := fun pc hq => (Bool.and_eq_true _ _ ▸ hp pc hq).2
      serving := fun c d hc => (Bool.and_eq_true _ _ ▸ of_each (hd c) d hc).1
      stations := fun st => station_of_check (of_decide_eq_true hst st)
      dialogues := fun c d hc => dialogue_of_check (Bool.and_eq_true _ _ ▸ of_each (hd c) d hc).2
      harvest := harvest_of_check hh
      slots := slots_of_check hsl
      stream := (of_decide_eq_true rt :)
      rings := (of_decide_eq_true rr :)
      survey := (of_decide_eq_true rs :)
      counts := (of_decide_eq_true rn :)
      sleep := ⟨fun h => by simp [rp] at h, fun h => by simp [rp] at h, fun _ => of_decide_eq_true ra⟩
      mark := fun h => by simp [rp] at h
      awake := (by simpa using rw : s.readyToSleep = false) }

end Sys2Proof.Laws
end

