-- ==== Sys2Proof/Laws/Step.lean ====
section
/-! SUPPORT. What one step can be, what the retention unit's check does, and what serving a request is. -/

namespace Sys2Proof.Machine

/-- No command and no step faults. -/
theorem exec_ne_fault (i : Instr) (s : State) (r : Fault) : exec i s ≠ .fault r := nomatch r

/-- Everything a step that answers a next state can be. -/
theorem step_cases {s t : State} (h : step s = .next t) :
    (∃ c rest, s.pending = c :: rest ∧ exec c { s with pending := rest } = .next t) ∨
    (s.pending = [] ∧ ∃ c u, idleChoice s = some (c, u) ∧ exec c u = .next t) ∨
    (s.pending = [] ∧ idleChoice s = none ∧ t = passMillisecond s) := by
  unfold step at h
  split at h
  · next c rest hp => exact .inl ⟨c, rest, hp, h⟩
  · next hp =>
    split at h
    · next c u hc => exact .inr (.inl ⟨hp, c, u, hc, h⟩)
    · next hc => exact .inr (.inr ⟨hp, hc, (Host.Outcome.next.inj h).symm⟩)

/-- An idle part takes one of the steps that are due, in its own state or with one more choice made. -/
theorem idleChoice_cases {s u : State} {c : Instr} (h : idleChoice s = some (c, u)) :
    c ∈ dueSteps s ∧ (u = s ∨ u = s.choose) := by
  unfold idleChoice at h
  split at h
  · cases h
  · next d hd => cases h; exact ⟨by simp [hd], .inl rfl⟩
  · next d e rest hd =>
    cases h
    refine ⟨?_, .inr rfl⟩
    rw [hd, List.getD_eq_getElem _ _ (by simpa using Nat.mod_lt _ (Nat.succ_pos _))]
    exact List.getElem_mem _

/-- The retention unit's check starts a save or does nothing. -/
theorem checkSleep_cases (s : State) :
    (s.readyToSleep = false ∧ checkSleep s = s) ∨ (s.readyToSleep = true ∧ checkSleep s = enterSaving s) := by
  unfold checkSleep
  cases s.readyToSleep <;> simp

@[simp] theorem checkSleep_of_busy {s : State} (h : s.readyToSleep = false) : checkSleep s = s := by
  simp [checkSleep, h]

/-- With a context bound, or the streamer in use, the part does not start a save. -/
theorem readyToSleep_of_bound {s : State} {c : ContextNo} {d : Dialogue} (h : s.context c = some d) :
    s.readyToSleep = false := by
  have : s.allFree = false := by
    unfold State.allFree
    rw [List.all_eq_false]
    exact ⟨c, List.mem_finRange c, by simp [h]⟩
  simp [State.readyToSleep, this]

theorem readyToSleep_of_streaming {s : State} (h : s.streamer.state ≠ .idle) : s.readyToSleep = false := by
  simp [State.readyToSleep, h]

theorem readyToSleep_of_serving {s : State} {p : Port} {data : List Byte}
    (h : s.management.slot = .serving p data) : s.readyToSleep = false := by
  simp [State.readyToSleep, State.serving, h]

/-- A request of its own kind is served: effect and answer in one step. -/
theorem serve_served {s : State} {k : RequestKind} {effect : State → Port → List Byte → Answer} {p : Port}
    {data : List Byte} (h : s.management.slot = .serving p data) (hk : requestKind data = k) :
    serve s k effect = respond (effect s p data).state p (answerFrames (requestCode data) (effect s p data)) := by
  simp [serve, h, hk]

/-- A request of another kind is left in the slot. -/
theorem serve_other {s : State} {k : RequestKind} {effect : State → Port → List Byte → Answer} {p : Port}
    {data : List Byte} (h : s.management.slot = .serving p data) (hk : requestKind data ≠ k) :
    serve s k effect = s := by
  simp [serve, h, hk]

/-- Without a request in the slot there is nothing to serve. -/
theorem serve_idle {s : State} {k : RequestKind} {effect : State → Port → List Byte → Answer}
    (h : s.serving = false) : serve s k effect = s := by
  unfold State.serving at h
  unfold serve
  split <;> simp_all

end Sys2Proof.Machine
end

