-- ==== Sys2Proof/Tests/Slice0.lean ====
section
/-! SUPPORT. The model's own tests: the smoke test of well-formedness, at most two small tests for each
command, and for every obligation with hypotheses a state that meets them, at the ends of its ranges. Expected
values are read from the rules and tables that the docstrings name. -/

namespace Sys2Proof.Tests

open Sys2Proof.Machine Sys2Proof.Laws

-- The tests are elaborated one after another: each waits for the kernel, and side by side they would hold a
-- thread each.
set_option Elab.async false

/-! ### Helpers -/

/-- A data frame with a standard identifier. -/
def frame (id : Nat) (ns : List Nat) : Frame := dataFrame (.standard (BitVec.ofNat 11 id)) (ns.map byte)

/-- Headers `10 N`, records `11 index code status count severity`. -/
def fmt : Descriptor :=
  { Descriptor.default with
    kindPos := some 0, headerKind := 0x10, recordKind := 0x11, nField := ⟨1, 1⟩, indexField := ⟨1, 1⟩
    codeField := ⟨2, 1⟩, countField := ⟨4, 1⟩, guardG := 20, severityPos := some 5
    queryStart := ⟨1, 2⟩, queryWindow := 3 }

/-- A row for stations of the cab segment. -/
def row0 : StationRow :=
  { StationRow.default with
    enable := true, announceTriggers := true, snapEnable := true, queryId := .standard 0x7E0
    window := 2, retryLimit := 2, postCount := 2, postWindow := 500 }

/-- An identifier table row for one standard identifier, for station 0. -/
def rule (cls : FrameClass) (id : Nat) (snap : Bool) : IdentRow :=
  { IdentRow.default with
    enable := true, snap := snap, ingress := #v[true, true, true], cls := cls
    route := #v[true, true, false], pattern := .standard (BitVec.ofNat 11 id) 0x7FF }

/-- Five frames of station 0 or of the vehicle, and four stations: 0, 1 and 2 on port 0, and 3 on port 1. -/
def tables : Tables :=
  { Tables.default with
    ident := ((((Tables.default.ident.set 1 (rule .reply 0x601 false)).set 2 (rule .announce 0x602 false)).set
      3 (rule .key 0x603 false)).set 4 (rule .time 0x604 false)).set 5 (rule .pass 0x605 true)
    stations := (((Tables.default.stations.set 0 row0).set 1 row0).set 2 row0).set 3
      { row0 with homePort := 1 }
    formats := Tables.default.formats.set 0 fmt
    ports := #v[PortRow.default0, { PortRow.default0 with defaultRoute := #v[true, false, true] },
      PortRow.default0] }

/-- All three ports ACTIVE, nothing else going on. -/
def live : State :=
  { State.reset with
    tables := tables
    ports := #v[PortUnit.start .active, PortUnit.start .active, PortUnit.start .active] }

/-- A request in the slot, from port 0. -/
def asked (ns : List Nat) (s : State := live) : State :=
  s.modManagement fun m => { m with slot := .serving 0 (ns.map byte) }

/-- A dialogue with station 0 as a grant starts it. -/
def sending : Dialogue :=
  { phase := .sending, station := 0, origin := .fromZero, resumeN := none, n := none, expected := 0
    windowEnd := 0, retries := 2, run := 0, waitTimer := none, yieldPending := false
    urgentStart := false, grantTag := 0 }

/-- The same waiting for its first header. -/
def waiting : Dialogue := { sending with phase := .awaitHeader, waitTimer := some 20 }

/-- The same with two of three records still to come. -/
def receiving : Dialogue :=
  { sending with
    phase := .receiving, waitTimer := some 20, n := some 3, expected := 1, windowEnd := 2, run := 1 }

/-- Station 0 ENGAGED by context 0 with the dialogue. -/
def talking (d : Dialogue) (s : State := live) : State :=
  let t := (s.setContext 0 (some d)).modStation 0 fun x => { x with run := .engaged }
  { t with engine := { t.engine with grants := 1 } }

/-- The query of `sending`. -/
def query : Query := { frame := buildQuery row0 fmt 0, context := 0, grantTag := 0 }

/-- A dialogue in SENDING with its query in the harvest output. -/
def calling : State := (talking sending).modPort 0 fun u => { u with harvest := [query] }

/-- An entry of station 0, STORED. -/
def entry : Entry := newEntry 1 ⟨0, 5, .stored, 3, none, .readback⟩ 100 1

/-- A store with one entry. -/
def withEntry (e : Entry) (s : State := live) : State :=
  s.modStore fun st => { st with entries := [e], nextSeq := 2 }

/-- One entry with a COMPLETE slot 0 that holds one frame and has been read or not. -/
def withSlot (read : Bool) (s : State := live) : State :=
  (withEntry { entry with slot := some 0 } s).modSlot 0 fun x =>
    { x with
      state := .complete, owner := some 1, read := read
      pre := [{ frame := frame 0x605 [1, 2], c := 300, ms := 515 }] }

/-- A station of the normal group of a port's due queue. -/
def due (st : StationNo) (p : Port) (s : State := live) : State :=
  (s.modStation st fun x => { x with run := .due }).modDue p fun q => { q with normal := q.normal ++ [st] }

/-- A station of the urgent group of a port's due queue. -/
def urgent (st : StationNo) (p : Port) (s : State := live) : State :=
  (s.modStation st fun x => { x with run := .due, urgent := true }).modDue p fun q =>
    { q with urgent := q.urgent ++ [st] }

/-- The survey RUNNING with its round timer at a value. -/
def running (v : Nat) (s : State := live) : State :=
  s.modSurvey fun x => { x with state := .running, tick := some 1, roundTimer := v }

/-- The key source KEY frames, the key state OFF. -/
def keyOff (s : State := live) : State :=
  (s.modTables fun t => { t with general := { t.general with keySource := .keyFrames } }).modClock fun k =>
    { k with key := .off }

/-- Whether an outcome is a next state with a property. -/
def after (o : Host.Outcome State Fault Refusal) (q : State → Bool) : Bool :=
  match o with
  | .next t => q t
  | .fault _ => false
  | .refused _ => false

/-- Whether an outcome is a next state. -/
def answers (o : Host.Outcome State Fault Refusal) : Bool := after o fun _ => true

theorem exists_of_answers {o : Host.Outcome State Fault Refusal} (h : answers o = true) :
    ∃ t, o = .next t := by
  cases o with
  | next t => exact ⟨t, rfl⟩
  | fault r => cases r
  | refused r => cases h

/-- The data of the newest frame in port 0's management output queue. -/
def newest (t : State) : List Byte := ((t.port 0).output.getLast?.map (·.data)).getD []

/-- Whether a command answers port 0's partner with one frame of these bytes. -/
def gives (c : Instr) (s : State) (ns : List Nat) : Bool :=
  after (exec c s) fun t => decide (newest t = ns.map byte)

/-! ### Well-formedness -/

/-- A data length above 8 is refused (Table 0.4). -/
theorem test_wf_length_nine : Instr.wf (.arrival 0 { frame 1 [] with dlc := 9 }) = false := by decide

/-- Data bytes that do not number the data length are refused (R132). -/
theorem test_wf_short_data : Instr.wf (.arrival 0 { frame 1 [7] with dlc := 2 }) = false := by decide

/-- A remote frame with data bytes is refused (R143). -/
theorem test_wf_remote_data : Instr.wf (.arrival 0 { frame 1 [7] with remote := true }) = false := by decide

/-- A remote frame keeps its data length (R143). -/
theorem test_wf_remote : Instr.wf (.arrival 0 { frame 1 [] with remote := true, dlc := 8 }) = true := by decide

/-- Sequence numbers run from 1 to 4,294,967,294 (Table 1.1). -/
theorem test_wf_sequence :
    Instr.wf (.captureTrigger 0) = false ∧ Instr.wf (.captureTrigger 1) = true ∧
      Instr.wf (.captureTrigger 4294967294) = true ∧ Instr.wf (.captureTrigger 4294967295) = false := by
  decide

/-! ### Commands: power, clock, survey -/

/-- A first power-on of a BLANK part: K is 1 and port 0 is JOINING (R51, Table 7.5). -/
theorem test_power_on : after (exec .powerOn live) (fun t =>
    decide (t.clock.k = 1 ∧ (t.port 0).state = .joining ∧ (t.port 1).state = .off)) = true := by
  decide +kernel

/-- A power-on after a lost save reports the loss (R176). -/
theorem test_power_on_image_lost :
    after (exec .powerOn (live.modRetention fun r => { r with mark := .invalid })) (fun t =>
      t.retention.imageLost) = true := by decide +kernel

/-- C rises at a tick, and stays at its maximum (R43). -/
theorem test_internal_tick :
    after (exec .internalTick live) (fun t => decide (t.clock.c = 1)) = true ∧
      after (exec .internalTick (live.modClock fun k => { k with c := 4294967295 })) (fun t =>
        decide (t.clock.c = 4294967295)) = true := by decide +kernel

/-- The hold ends at its timer, and C does not jump (R46). -/
theorem test_hold_timer_expiry :
    after (exec .holdTimerExpiry (live.modClock fun k => { k with hold := true, holdTimer := some 0, c := 9 }))
      (fun t => decide (t.clock.hold = false ∧ t.clock.c = 9)) = true := by decide +kernel

/-- Without KEY frames for the key-loss time the key is taken as OFF (R50). -/
theorem test_key_loss_timer_expiry :
    after (exec .keyLossTimerExpiry (live.modClock fun k => { k with keyLoss := some 0 }))
      (fun t => decide (t.clock.key = .off)) = true := by decide +kernel

/-- A station joins its due queue at its slot offset (R64). -/
theorem test_round_tick :
    after (exec .roundTick ((running 4).modTables fun t =>
      { t with stations := t.stations.set 1 { row0 with slotOffset := 5 } }))
      (fun t => decide ((t.due 0).normal = [1] ∧ t.survey.roundTimer = 5)) = true := by decide +kernel

/-- A ONCE_PER_CYCLE survey is DONE at the end of its round (R63). -/
theorem test_round_end :
    after (exec .roundEnd ((running 300).modSurvey fun v => { v with endDue := true }))
      (fun t => decide (t.survey.state = .done ∧ t.survey.roundTimer = 300)) = true := by decide +kernel

/-- A tick that finds a CONTINUOUS round's end outstanding starts the next round and ticks in it (R63). -/
theorem test_round_tick_after_end :
    after (exec .roundTick ((((running 300).modSurvey fun v => { v with endDue := true }).modTables fun t =>
      { t with general := { t.general with surveyMode := .continuous } })))
      (fun t => decide (t.survey.roundNumber = 1 ∧ t.survey.roundTimer = 1)) = true := by decide +kernel

/-- The end of the grace cuts a dialogue and keeps where it stood (R72). -/
theorem test_key_off_grace_expiry :
    after (exec .keyOffGraceExpiry ((talking receiving).modSurvey fun v => { v with grace := some 0 }))
      (fun t => decide (t.context 0 = none ∧ (t.station 0).lastOutcome = some .cut ∧
        (t.station 0).resume = some ⟨1, 3⟩)) = true := by decide +kernel

/-- With every condition of sleep entry met, the expiry of the sleep delay starts a save (R172). -/
theorem test_sleep_delay_expiry :
    after (exec .sleepDelayExpiry (keyOff.modRetention fun r => { r with sleepTimer := .running 0 }))
      (fun t => decide (t.retention.power = .saving ∧ t.retention.mark = .invalid)) = true := by
  decide +kernel

/-- A completed save leads to SLEEP with DORMANT ports (R173). -/
theorem test_save_complete :
    after (exec .saveComplete (keyOff.modRetention fun r => { r with power := .saving, mark := .invalid }))
      (fun t => decide (t.retention.power = .sleep ∧ t.retention.mark = .valid ∧
        (t.port 1).state = .dormant)) = true := by decide +kernel

/-- Bus activity wakes the part, and its ports join anew (R175). -/
theorem test_wake :
    after (exec (.wake 0) (keyOff.modRetention fun r => { r with power := .sleep }))
      (fun t => decide (t.retention.power = .run ∧ (t.port 2).state = .joining)) = true := by decide +kernel

/-! ### Commands: ports and dialogues -/

/-- A PASS frame is forwarded to its route set but the ingress port, and enters the ring (R129, R131). -/
theorem test_arrival_forward :
    after (exec (.arrival 0 (frame 0x605 [1])) live) (fun t =>
      decide ((t.port 1).forward = [frame 0x605 [1]] ∧ (t.port 0).forward = [] ∧
        (t.port 2).forward = [] ∧ (t.ring 0).length = 1)) = true := by decide +kernel

/-- An announcement of a new fault creates its entry (R9, R112). -/
theorem test_arrival_announce :
    after (exec (.arrival 0 (frame 0x602 [0x11, 0, 9, 1, 4, 2])) live) (fun t =>
      decide (t.store.entries.map (fun e => (e.code, e.state, e.peak, e.total)) = [(9, .active, 2, 4)])) =
      true := by decide +kernel

/-- REC counts receive errors and holds at 255; at 128 the port is PASSIVE (R120). -/
theorem test_receive_error :
    after (exec (.receiveError 0) (live.modPort 0 fun u => { u with rxErrors := 127 }))
      (fun t => decide ((t.port 0).rxErrors = 128 ∧ (t.port 0).state = .passive)) = true ∧
    after (exec (.receiveError 0) (live.modPort 0 fun u => { u with rxErrors := 255, state := .passive }))
      (fun t => decide ((t.port 0).rxErrors = 255)) = true := by decide +kernel

/-- A query's sent event starts the wait for its header (R81). -/
theorem test_transmission_sent :
    after (exec (.transmissionSent 0) ((talking sending).modPort 0 fun u => { u with tx := some (.query query) }))
      (fun t => decide (t.context 0 = some waiting ∧ (t.port 0).tx = none)) = true := by decide +kernel

/-- TEC 248 and a failed attempt take the port to BUS_OFF, and the frames it held are drops (R120, R122). -/
theorem test_transmission_failed :
    after (exec (.transmissionFailed 0) (live.modPort 0 fun u =>
      { u with txErrors := 248, state := .passive, tx := some (.forwarded (frame 1 [])),
               forward := [frame 2 []] }))
      (fun t => decide ((t.port 0).state = .busOff ∧ (t.port 0).txErrors = 256 ∧ (t.port 0).drops = 2)) =
      true := by decide +kernel

/-- Port 0 holds two contexts, of runs 8 and 9 records, and urgent station 2 waits there; station 3 may still
be granted a context on port 1, so the look's preemption check waits for that grant. -/
def owing : State :=
  let t := ((talking { receiving with run := 8 }).setContext 1 (some
    { receiving with station := 1, run := 9, grantTag := 1 })).modStation 1 fun x => { x with run := .engaged }
  due 3 1 (urgent 2 0 { t with engine := { t.engine with grants := 2 } })

/-- The bus-off that takes the pending grant away brings the preemption check that waited for it: the larger
run of the port's two contexts is asked to yield (R95). -/
theorem test_transmission_failed_settles :
    after (exec (.transmissionFailed 1) (owing.modPort 1 fun u =>
      { u with txErrors := 248, state := .passive, tx := some (.forwarded (frame 1 [])) }))
      (fun t => decide ((t.context 1).map (·.yieldPending) = some true ∧
        (t.context 0).map (·.yieldPending) = some false)) = true := by decide +kernel

/-- Lost arbitration leaves the frame where it is (R121). -/
theorem test_lost_arbitration :
    after (exec (.lostArbitration 0) (live.modPort 0 fun u => { u with tx := some (.query query) }))
      (fun t => decide ((t.port 0).tx = some (.query query))) = true := by decide +kernel

/-- After a wake a port may join PASSIVE (R118). -/
theorem test_bus_idle :
    after (exec (.busIdle 0) (live.modPort 0 fun u => { u with state := .joining, txErrors := 128 }))
      (fun t => decide ((t.port 0).state = .passive)) = true := by decide +kernel

/-- A recovery event clears both counts (R123). -/
theorem test_recovery_event :
    after (exec (.recoveryEvent 0) (live.modPort 0 fun u => { u with state := .busOff, txErrors := 256 }))
      (fun t => decide ((t.port 0).state = .joining ∧ (t.port 0).txErrors = 0)) = true := by decide +kernel

/-- After management comes forward; at the almost-full level forward goes before a waiting query (R139). -/
theorem test_transmit_choice :
    after (exec (.transmitChoice 0) (calling.modPort 0 fun u => { u with lastServed := .forward }))
      (fun t => decide ((t.port 0).tx = some (.query query) ∧ (t.port 0).guardTimer = some 50)) = true ∧
    after (exec (.transmitChoice 0) (calling.modPort 0 fun u =>
      { u with lastServed := .forward, forward := List.replicate 16 (frame 2 []) }))
      (fun t => decide ((t.port 0).tx = some (.forwarded (frame 2 [])))) = true := by decide +kernel

/-- The guard timer elapses (R140). -/
theorem test_guard_timer_expiry :
    after (exec (.guardTimerExpiry 0) (live.modPort 0 fun u => { u with guardTimer := some 0 }))
      (fun t => decide ((t.port 0).guardTimer = none)) = true := by decide +kernel

/-- The urgent station of port 1 goes before the normal one of port 0 (R77, R78). -/
theorem test_grant :
    after (exec .grant (urgent 3 1 (due 1 0))) (fun t =>
      decide ((t.context 0).map (·.station) = some 3 ∧ t.engine.lastGranted = 1 ∧
        ((t.port 1).harvest.map (·.frame)) = [frame 0x7E0 [0, 0, 0, 2, 0, 0, 0, 0]])) = true := by
  decide +kernel

/-- A wait timer's expiry uses one retry, and none left abandons the station (R91). -/
theorem test_wait_timer_expiry :
    after (exec (.waitTimerExpiry 0) (talking receiving)) (fun t =>
      decide ((t.context 0).map (·.retries) = some 1)) = true ∧
    after (exec (.waitTimerExpiry 0) (talking { receiving with retries := 0 })) (fun t =>
      decide ((t.station 0).lastOutcome = some .abandoned ∧ (t.station 0).failures = 1)) = true := by
  decide +kernel

/-- A capture takes the lowest FREE slot, which fills for its post window (R146). -/
theorem test_capture_trigger :
    after (exec (.captureTrigger 1) ((withEntry entry).modSnapshots fun u => { u with triggers := [⟨1, 0⟩] }))
      (fun t => decide ((t.slot 0).state = .filling ∧ (t.slot 0).timer = some 500 ∧
        t.store.entries.map Entry.slot = [some 0])) = true := by decide +kernel

/-- An unread slot is kept, and the entry's appearance is missed (R148). -/
theorem test_capture_trigger_unread :
    after (exec (.captureTrigger 1) ((withSlot false).modSnapshots fun u => { u with triggers := [⟨1, 0⟩] }))
      (fun t => decide (t.slot 0 = (withSlot false).slot 0 ∧ t.store.entries.map Entry.missed = [true])) =
      true := by decide +kernel

/-- A FILLING slot is COMPLETE at the end of its window (R147). -/
theorem test_post_window_expiry :
    after (exec (.postWindowExpiry 0) ((withSlot false).modSlot 0 fun x =>
      { x with state := .filling, timer := some 0, target := 2 }))
      (fun t => decide ((t.slot 0).state = .complete ∧ (t.slot 0).timer = none)) = true := by decide +kernel

/-! ### Commands: the management unit -/

/-- The last held frame empties the slot (R155). -/
theorem test_queue_held_response :
    after (exec .queueHeldResponse (live.modManagement fun m => { m with slot := .waitingOutput 0 [[1]] }))
      (fun t => decide (t.management.slot = .empty ∧ newest t = [1, 0, 0, 0, 0, 0, 0, 0])) = true := by
  decide +kernel

/-- Frame B of an exported entry: STORED, severity 3, READBACK, no slot (Tables 13.3 and 13.6). -/
theorem test_export_look :
    after (exec .exportLook ((withEntry entry).modStreamer fun x => { x with state := .streaming }))
      (fun t => decide (newest t = [0xA6, 0, 0, 0, 100, 0, 1, 0x9F] ∧ t.streamer.cursor = 2)) = true := by
  decide +kernel

/-- The first stream frame of a captured frame at C 300, 515 ms (Tables 13.3 and 13.6). -/
theorem test_snapshot_look :
    after (exec .snapshotLook ((withSlot false).modStreamer fun x =>
      { x with state := .streaming, kind := .snapshot, total := 1, owner := 1 }))
      (fun t => decide ((t.port 0).output.map (·.data) =
        [[0x20, 0, 0, 0x06, 0x05, 0x22, 0x03, 0], [0xEC, 1, 2, 0, 0, 0, 0, 0]])) = true := by decide +kernel

/-- A notice carries the latest sequence number and the count (R171). -/
theorem test_queue_notice :
    gives .queueNotice ((live.modTables fun t => { t with general := { t.general with noticeEnable := true } }
      ).modNotice fun n => { n with count := 3, latest := some 258 }) [0x1E, 0, 0, 1, 2, 3, 0, 0] = true := by
  decide +kernel

/-- The interval timer elapses (R171). -/
theorem test_notice_interval_expiry :
    after (exec .noticeIntervalExpiry (live.modNotice fun n => { n with timer := some 0 }))
      (fun t => decide (t.notice.timer = none)) = true := by decide +kernel

/-- A notice interval that runs at the entry into SLEEP runs on there (R55). -/
theorem test_notice_interval_in_sleep :
    after (step ((live.modRetention fun r => { r with power := .sleep }).modNotice fun n =>
      { n with timer := some 7 })) (fun t => decide (t.notice.timer = some 6)) = true := by decide +kernel

/-- A code outside Table 13.1 is answered BAD_REQUEST (R153). -/
theorem test_unknown_request : gives .unknownRequest (asked [0x14]) [0x14, 2, 0, 0, 0, 0, 0, 0] = true := by
  decide +kernel

/-- The first frame of STATUS: survey OFF, key ON, C 0 (Table 13.5). -/
theorem test_status :
    after (exec .status (asked [1])) (fun t => decide ((t.port 0).output.map (·.data) =
      [[1, 0, 0, 1, 0, 0, 0, 0], [1, 0, 0, 1, 0, 0, 0, 0], [1, 0, 0, 0, 0, 0xFF, 0xFF, 0]])) = true := by
  decide +kernel

/-- PORT_STATUS names ports 0 to 2 (R161). -/
theorem test_port_status :
    gives .portStatus (asked [2, 2]) [2, 0, 0, 0, 0, 0, 0, 0] = true ∧
      gives .portStatus (asked [2, 3]) [2, 3, 0, 0, 0, 0, 0, 0] = true := by decide +kernel

/-- STATION_STATUS reports the lapped flag and clears it (R61). -/
theorem test_station_status :
    after (exec .stationStatus (asked [3, 47] (live.modStation 47 fun x => { x with lapped := true })))
      (fun t => decide (((t.port 0).output.head?.map (·.data)) = some [3, 0, 47, 0, 0, 0, 1, 0] ∧
        (t.station 47).lapped = false)) = true := by decide +kernel

/-- READ_ROW of the defaults of port 1 after a power-on: auto-recover set, 250 kbit/s (Tables 7.1, 13.7). -/
theorem test_read_row :
    gives .readRow (asked [4, 3, 1] State.reset) [4, 0, 4, 1, 0, 50, 16, 0] = true := by decide +kernel

/-- An entry that is not in the store is not found (R163). -/
theorem test_read_entry :
    gives .readEntry (asked [0x13, 0, 0, 0, 9]) [0x13, 5, 0, 0, 0, 0, 0, 0] = true := by decide +kernel

/-- STAGE may fill the buffer to its last byte, and no further (R157). -/
theorem test_stage :
    after (exec .stage (asked [5, 30, 7, 8])) (fun t =>
      decide (t.management.staging.get 30 = 7 ∧ t.management.staging.get 31 = 8)) = true ∧
    gives .stage (asked [5, 31, 7, 8]) [5, 3, 0, 0, 0, 0, 0, 0] = true := by decide +kernel

/-- A staged PORT row is in force at once (R125, R158). -/
theorem test_commit :
    after (exec .commit (asked [6, 3, 2] (live.modManagement fun m =>
      { m with staging := writeStaging m.staging 0 [3, 2, 1, 250, 24] })))
      (fun t => decide (t.portRow 2 = { PortRow.default with
        enable := true, listenOnly := true, autoRecover := false, bitRate := .kbit500,
        defaultRoute := #v[true, false, false], guardInterval := 250, almostFull := 24 } ∧
        (t.port 2).state = .joining)) = true := by decide +kernel

/-- The row of an ENGAGED station is held and answered DEFERRED (R158). -/
theorem test_commit_deferred :
    gives .commit (asked [6, 1, 0] ((talking waiting).modManagement fun m =>
      { m with staging := writeStaging m.staging 0 (encodeStation row0) })) [6, 4, 0, 0, 0, 0, 0, 0] = true := by
  decide +kernel

/-- SOFT_RESET cuts the dialogues, and the store stays (R164). -/
theorem test_soft_reset :
    after (exec .softReset (asked [7] (talking receiving (withEntry entry)))) (fun t =>
      decide (t.context 0 = none ∧ t.store.entries = [entry] ∧ (t.port 0).state = .joining)) = true := by
  decide +kernel

/-- SURVEY START with the key ON starts a round (R73). -/
theorem test_survey_start :
    after (exec .surveyStart (asked [8, 1])) (fun t =>
      decide (t.survey.state = .running ∧ t.general.surveyMode = .continuous)) = true := by decide +kernel

/-- SURVEY STOP flushes the due queues (R74). -/
theorem test_survey_stop :
    after (exec .surveyStop (asked [9] (due 1 0 (running 4)))) (fun t =>
      decide (t.survey.state = .off ∧ (t.due 0).normal = [] ∧ (t.station 1).run = .idle)) = true := by
  decide +kernel

/-- READ_NOW makes a station urgent, and refuses a disabled row (R68). -/
theorem test_read_now :
    after (exec .readNow (asked [10, 1])) (fun t => decide ((t.due 0).urgent = [1])) = true ∧
      gives .readNow (asked [10, 9]) [10, 3, 0, 0, 0, 0, 0, 0] = true := by decide +kernel

/-- SET_CLOCK sets C most significant byte first and clears the hold (R47). -/
theorem test_set_clock :
    after (exec .setClock (asked [11, 0, 1, 0, 2])) (fun t => decide (t.clock.c = 65538)) = true := by
  decide +kernel

/-- RECOVER acts on a BUS_OFF port only (R124). -/
theorem test_recover :
    after (exec .recover (asked [12, 1] (live.modPort 1 fun u => { u with state := .busOff })))
      (fun t => decide ((t.port 1).state = .joining)) = true ∧
    gives .recover (asked [12, 1]) [12, 3, 0, 0, 0, 0, 0, 0] = true := by decide +kernel

/-- CLEAR of a station frees its slots and counts its entries (R19). -/
theorem test_clear :
    after (exec .clear (asked [13, 0] (withSlot true))) (fun t =>
      decide (t.store.entries = [] ∧ t.slot 0 = Slot.freed ∧ t.store.nextSeq = 2 ∧
        newest t = [13, 0, 0, 1, 0, 0, 0, 0])) = true := by decide +kernel

/-- CLEAR of all stations (R20). -/
theorem test_clear_all :
    gives .clearAll (asked [13, 255] (withSlot true)) [13, 0, 0, 1, 0, 0, 0, 0] = true := by decide +kernel

/-- EXPORT from 0 starts at 1 (R166). -/
theorem test_export_start :
    after (exec .exportStart (asked [14, 0, 0, 0, 0, 255, 1])) (fun t =>
      decide (t.streamer.state = .streaming ∧ t.streamer.cursor = 1 ∧ t.streamer.changedOnly = true ∧
        t.streamer.filter = none)) = true := by decide +kernel

/-- EXPORT_STOP ends a stream (R168). -/
theorem test_export_stop :
    after (exec .exportStop (asked [15] (live.modStreamer fun x => { x with state := .paused })))
      (fun t => decide (t.streamer.state = .idle)) = true := by decide +kernel

/-- SNAPSHOT clears the read flag as its stream starts (R169). -/
theorem test_snapshot :
    after (exec .snapshot (asked [16, 0, 0, 0, 1] (withSlot true))) (fun t =>
      decide (t.streamer.total = 1 ∧ (t.slot 0).read = false)) = true := by decide +kernel

/-- RELEASE frees the slot and keeps the entry (R151). -/
theorem test_release :
    after (exec .release (asked [17, 0, 0, 0, 1] (withSlot false))) (fun t =>
      decide (t.store.entries = [entry] ∧ t.slot 0 = Slot.freed)) = true := by decide +kernel

/-- NOTICES takes an interval of 1 to 255 steps of 100 ms (R170). -/
theorem test_notices :
    after (exec .notices (asked [18, 1, 2, 255])) (fun t =>
      decide (t.general.noticeInterval = 25500 ∧ t.general.noticePort = 2)) = true ∧
    gives .notices (asked [18, 1, 2, 0]) [18, 3, 0, 0, 0, 0, 0, 0] = true := by decide +kernel

/-! ### The table's words -/

/-- The opcode table gives no row any bits: no word spells a command. -/
theorem test_no_words : decodeTableWord 8 1 = none ∧ live.withFetchWord 8 1 = live := by
  exact ⟨rfl, rfl⟩

/-! ### Hypotheses that are met -/

/-- A running state: a dialogue with station 0, the survey under way, station 3 due, an entry with a slot. -/
def busy : State := running 4 (due 3 1 (talking receiving (withSlot false)))

theorem busy_inv : busy.Inv := inv_of_check (by decide +kernel)

theorem live_inv : live.Inv := inv_of_check (by decide +kernel)

/-- For the statements that every step keeps the properties of Safety.lean: a record arrives. -/
theorem witness_steps_keep :
    busy.Inv ∧ { busy with pending := [.arrival 0 (frame 0x601 [0x11, 1, 5, 1, 4, 2])] }.Inv ∧
      (∃ t, step busy = .next t) ∧
      ∃ t, step { busy with pending := [.arrival 0 (frame 0x601 [0x11, 1, 5, 1, 4, 2])] } = .next t :=
  ⟨busy_inv, inv_of_check (by decide +kernel), exists_of_answers (by decide +kernel),
    exists_of_answers (by decide +kernel)⟩

/-- Nothing due, one step due and two due; the millisecond counter at 998 and at 999; awake and asleep. -/
theorem witness_IdlePartGoesOn :
    live.pending = [] ∧ dueSteps live = [] ∧ dueSteps (asked [1]) = [.status] ∧ (asked [1]).pending = [] ∧
    2 ≤ (dueSteps (due 1 0 (asked [1]))).length ∧ (due 1 0 (asked [1])).pending = [] ∧
    (live.modClock fun k => { k with ms := 998 }).clock.ms < 999 ∧
    (live.modClock fun k => { k with ms := 999 }).clock.ms = 999 ∧
    (live.modRetention fun r => { r with power := .sleep }).retention.power = .sleep ∧
    live.retention.power ≠ .sleep := by decide +kernel

theorem witness_ClockNeverRunsBack :
    let s := live.modClock fun k => { k with k := 65535 }
    (∃ t, exec .internalTick s = .next t) ∧ (Instr.internalTick ≠ .powerOn ∧ Instr.internalTick ≠ .setClock) ∧
      s.clock.k ≤ 65535 :=
  ⟨exists_of_answers (by decide +kernel), by decide, by decide +kernel⟩

/-- A new entry beside an old one: both outcomes that the statement names. -/
theorem witness_EntriesKeepTheirPast :
    (withEntry entry).store.Ok ∧
      after (exec (.arrival 0 (frame 0x602 [0x11, 0, 9, 1, 4, 2])) (withEntry entry)) (fun t =>
        decide (t.store.entries.map Entry.seq = [1, 2])) = true :=
  ⟨store_of_check (by decide +kernel), by decide +kernel⟩

/-- A header that reports an empty list. -/
theorem witness_GoneOnlyAtComplete :
    (talking waiting (withEntry entry)).store.Ok ∧
      after (exec (.arrival 0 (frame 0x601 [0x10, 0])) (talking waiting (withEntry entry))) (fun t =>
        decide (entry ∈ (withEntry entry).store.entries ∧ entry.state ≠ .gone ∧
          t.store.entries.map (fun e => (e.seq, e.state)) = [(1, .gone)])) = true :=
  ⟨store_of_check (by decide +kernel), by decide +kernel⟩

theorem witness_rows :
    (13 ≤ (encodeIdent IdentRow.default0).length ∧
      decodeIdent (encodeIdent IdentRow.default0) = some IdentRow.default0) ∧
    (24 ≤ (encodeStation row0).length ∧ decodeStation 65535 (encodeStation row0) = some row0) ∧
    (5 ≤ (encodePort PortRow.default0).length ∧
      decodePort 0 (encodePort PortRow.default0) = some PortRow.default0) ∧
    (28 ≤ (encodeFormat fmt).length ∧ decodeFormat (encodeFormat fmt) = some fmt) ∧
    19 ≤ (encodeGeneral GeneralRow.default).length ∧
      decodeGeneral (encodeGeneral GeneralRow.default) = some GeneralRow.default := by decide +kernel

/-- A port in PASSIVE with TEC 247, REC 255 and a frame in the transmitter. -/
def worn : State :=
  live.modPort 0 fun u =>
    { u with txErrors := 247, rxErrors := 255, state := .passive, tx := some (.forwarded (frame 1 [])) }

theorem witness_ErrorCountsFollowEvents :
    worn.readyToSleep = false ∧ (worn.port 0).state.serves = true ∧ (worn.port 0).tx ≠ none ∧
      (worn.port 0).txErrors + 8 < 256 := by decide +kernel

/-- A port that the next failed attempt takes to BUS_OFF, with a dialogue on it. -/
def failing : State :=
  (talking receiving).modPort 0 fun u =>
    { u with txErrors := 248, state := .passive, tx := some (.forwarded (frame 1 [])) }

theorem witness_BusOffTakesThePortDown :
    failing.Inv ∧ failing.management.pendingCommit = none ∧ (failing.port 0).state.serves = true ∧
      (failing.port 0).tx ≠ none ∧ 256 ≤ (failing.port 0).txErrors + 8 ∧
      failing.context 0 = some receiving ∧ failing.dialoguePort receiving = 0 ∧ failing.boundTo 0 1 = false :=
  ⟨inv_of_check (by decide +kernel), by decide +kernel⟩

theorem witness_SentFrameLeavesTransmitter :
    (worn.port 0).state.serves = true ∧ (worn.port 0).tx = some (.forwarded (frame 1 [])) ∧
    ((calling.modPort 0 fun u => { u with tx := some (.query query) }).port 0).tx = some (.query query) ∧
    (calling.port 0).state.serves = true := by decide +kernel

theorem witness_QuietPortEvents :
    live.readyToSleep = false ∧ (State.reset.port 0).state.serves = false ∧ State.reset.readyToSleep = false ∧
      (live.port 0).tx = none ∧ (live.port 0).state.serves = true ∧
      ({ frame 1 [] with dlc := 9 } : Frame).wf = false := by decide +kernel

theorem witness_PortsRejoin :
    let quiet := State.reset.modTables fun t =>
      { t with ports := t.ports.set 0 { PortRow.default0 with listenOnly := true } }
    let off := live.modPort 0 fun u => { u with state := .busOff }
    let stuck := off.modTables fun t => { t with ports := t.ports.set 0 { PortRow.default0 with autoRecover := false } }
    ((State.reset.port 0).state = .joining ∧ (State.reset.portRow 0).listenOnly = false) ∧
    ((quiet.port 0).state = .joining ∧ (quiet.portRow 0).listenOnly = true) ∧ (live.port 0).state ≠ .joining ∧
    ((off.port 0).state = .busOff ∧ (off.portRow 0).autoRecover = true) ∧ (live.port 0).state ≠ .busOff ∧
    (stuck.portRow 0).autoRecover = false := by decide +kernel

/-- A queue at the almost-full level; below it; a query alone; an answer alone; nothing. -/
theorem witness_TransmitChoiceRoundRobin :
    let full := live.modPort 0 fun u => { u with forward := List.replicate 16 (frame 2 []) }
    let some1 := live.modPort 0 fun u => { u with forward := List.replicate 15 (frame 2 []) }
    let out := live.modPort 0 fun u => { u with output := [frame 3 []] }
    ((full.port 0).state.serves = true ∧ (full.port 0).tx = none ∧
      (full.port 0).forward = frame 2 [] :: List.replicate 15 (frame 2 []) ∧
      (full.portRow 0).almostFull ≤ (full.port 0).forward.length ∧ (full.port 0).forward ≠ []) ∧
    ((some1.port 0).forward = frame 2 [] :: List.replicate 14 (frame 2 []) ∧
      (some1.port 0).forward.length < (some1.portRow 0).almostFull ∧
      [TxSource.forward, .harvest, .management] = [] ++ .forward :: [.harvest, .management]) ∧
    ((calling.port 0).forward = [] ∧ (calling.port 0).harvest = [query] ∧ (calling.port 0).guardTimer = none ∧
      (calling.port 0).ready .forward = false ∧
      [TxSource.forward, .harvest, .management] = [.forward] ++ .harvest :: [.management]) ∧
    ((out.port 0).output = [frame 3 []] ∧ (out.port 0).ready .forward = false ∧
      (out.port 0).ready .harvest = false ∧
      [TxSource.forward, .harvest, .management] = [.forward, .harvest] ++ .management :: []) ∧
    ((live.port 0).forward = [] ∧ (live.port 0).harvest = [] ∧ (live.port 0).output = []) ∧
    (State.reset.port 0).state.serves = false ∧ (worn.port 0).tx ≠ none := by decide +kernel

theorem witness_ArrivalEffectsAtThePorts :
    (State.reset.port 0).state.serves = false ∧ (worn.port 0).state.serves = true ∧
    ((live.modPort 1 fun u => { u with forward := List.replicate 24 (frame 2 []) }).port 1).forward.length = 24 ∧
    ((live.modPort 1 fun u => { u with forward := List.replicate 23 (frame 2 []) }).port 1).forward.length < 24 := by
  decide +kernel

theorem witness_ArrivalIsClassifiedAndHandedOn :
    ((frame 0x605 [1]).wf = true ∧ (live.port 0).state.accepts = true ∧
      (live.tables.ident.get 5).covers 0 (frame 0x605 [1]).id = true ∧
      ∀ m : Fin 96, m < 5 → (live.tables.ident.get m).covers 0 (frame 0x605 [1]).id = false) ∧
    (∀ n : Fin 96, (live.tables.ident.get n).covers 0 (frame 0x700 []).id = false) ∧
    (State.reset.port 0).state.accepts = false := by decide +kernel

/-- Descriptors with and without a kind position, frames of each kind and length about the ends of their
fields, and each outcome of a frame that can be read. -/
theorem witness_ReportsAreMergedOrCounted :
    let d := live.format 0
    let t := talking receiving
    t.Inv ∧ (d.kindPos = some 0 ∧ readReply d 0 [] = none ∧ readReply d 0 [0x10] = none ∧
      readReply d 0 [0x10, 9] = some (.header 9) ∧ readReply d 0 [0x11, 1, 9, 1, 4] = none ∧
      readReply d 0 [0x11, 1, 9, 1, 4, 9] =
        some (.record 1 { code := 9, state := .active, severity := 7, count := some ⟨4, 256, 20⟩ })) ∧
    ({ d with kindPos := none } : Descriptor).kindPos = none ∧
    (t.station 1).run ≠ .engaged ∧
    readReport { d with byteOrder := .leastSignificantFirst, codeField := ⟨0, 2⟩, countField := ⟨0, 0⟩,
                        severityPos := none } 3 [1, 2, 0, 1] =
      some { code := 513, state := .active, severity := 3, count := none } ∧
    ((frame 0x602 [0x11, 0, 9, 1, 4, 2]).remote = false ∧ (rule .announce 0x602 false).cls = .announce ∧
      (readAnnouncement d 0 [0x11, 0, 9, 1, 4, 2]).isSome = true ∧ readAnnouncement d 0 [0x10, 0, 9, 1, 4, 2] = none) ∧
    ((rule .reply 0x601 false).cls = .reply ∧ (live.station 0).run ≠ .engaged ∧ (t.stationRow 0).homePort ≠ 1) ∧
    ((t.station 0).run = .engaged ∧ (t.stationRow 0).homePort = 0 ∧ readReply d 0 [0x12] = none ∧
      t.contextOf 0 = some 0 ∧ t.context 0 = some receiving ∧ readReply d 0 [0x10, 3] = some (.header 3) ∧
      (readReply d 0 [0x11, 1, 9, 1, 4, 2]).isSome = true) :=
  ⟨inv_of_check (by decide +kernel), by decide +kernel⟩

theorem witness_KeyAndTimeFrames :
    let d := live.format 0
    (frame 0x603 [1]).remote = false ∧ (rule .key 0x603 false).cls = .key ∧ (rule .time 0x604 false).cls = .time ∧
      (frame 0x603 []).data.length < d.valueField.pos + d.valueField.width ∧
      ¬ (frame 0x603 [1]).data.length < d.valueField.pos + d.valueField.width := by decide +kernel

theorem witness_RequestsReachTheSlot :
    let s := asked [1]
    ({ frame 1 [] with remote := true } : Frame).remote = true ∧ (rule .pass 1 false).cls = .pass ∧
    ((frame 0x5C4 [1]).remote = false ∧ IdentRow.default0.cls = .manage ∧ (State.reset.port 0).state.serves = false ∧
      (State.reset.portRow 1).managementEnable = false) ∧
    ((live.portRow 0).managementEnable = true ∧ (live.port 0).state.serves = true ∧ live.management.slot = .empty) ∧
    (s.management.slot ≠ .empty ∧
      ((s.modPort 0 fun u => { u with output := List.replicate 7 (frame 1 []) }).port 0).output.length < 8 ∧
      8 ≤ ((s.modPort 0 fun u => { u with output := List.replicate 8 (frame 1 []) }).port 0).output.length) := by
  decide +kernel

theorem witness_RingAndPostFrames :
    let s := live.modSnapshots fun u => { u with triggers := [⟨1, 0⟩] }
    live.snapshots.triggers.length ≤ 0 ∧ 0 < s.snapshots.triggers.length := by decide +kernel

theorem witness_MergeUpdatesTheEntry :
    (withEntry entry).store.Ok ∧ entry ∈ (withEntry entry).store.entries ∧ entry.station = 0 ∧ entry.code = 5 :=
  ⟨store_of_check (by decide +kernel), by decide +kernel⟩

theorem witness_NewKeyCreatesEntry :
    (∀ e ∈ (withEntry entry).store.entries, e.station ≠ 0 ∨ e.code ≠ 6) ∧
    ((withEntry entry).store.nextSeq < 4294967295 ∧ (withEntry entry).store.entries.length < 512) ∧
    (4294967294 < 4294967295 ∧
      4294967295 ≤ ((withEntry entry).modStore fun st => { st with nextSeq := 4294967295 }).store.nextSeq) := by
  decide +kernel

theorem witness_VictimIsFirstInEvictionOrder :
    let es := [entry, { entry with seq := 2, state := .gone }]
    (es.map Entry.seq).Nodup ∧ victimOf es = some { entry with seq := 2, state := .gone } ∧
      victimOf [] = none := by decide +kernel

/-! A full store -/

/-- An old fault of station 1. -/
def old (i : Nat) : Entry := newEntry (i + 1) ⟨1, i, .stored, 2, none, .readback⟩ 100 1

/-- The store holds `n` old faults. -/
def filled (n : Nat) : State :=
  live.modStore fun _ => { entries := (List.range n).map old, nextSeq := n + 1, evictions := 0, refusals := 0 }

theorem old_store (n : Nat) (h : n ≤ 512) :
    ({ entries := (List.range n).map old, nextSeq := n + 1, evictions := 0, refusals := 0 } : Store).Ok := by
  refine ⟨by simpa using h, ?_, ?_, ?_, by simp, by simp only; omega, by simp, by simp⟩
  · rw [List.map_map, List.pairwise_map]
    exact List.pairwise_lt_range.imp fun h => by simpa [old, newEntry] using h
  · intro e he
    obtain ⟨i, hi, rfl⟩ := List.mem_map.1 he
    have : i < n := List.mem_range.1 hi
    refine ⟨by simp [old, newEntry], by simp only [old, newEntry]; omega, ?_⟩
    refine ⟨by simp only [old, newEntry]; omega, ?_, ?_, ?_, fun x hx => ?_⟩
    · simp [old, newEntry]
    · simp [old, newEntry, newTotal]
    · simp [old, newEntry, newTotal]
    · simp [old, newEntry] at hx
  · rw [List.map_map]
    exact List.Nodup.map (fun i j h => by simpa [old, newEntry] using h) List.nodup_range

/-- A store without slots, put in place of another, leaves the part in order. -/
theorem modStore_inv {s : State} (h : s.Inv) (hs : ∀ i, (s.slot i).state = .free) {st : Store} (hst : st.Ok)
    (hn : ∀ e ∈ st.entries, e.slot = none) : (s.modStore fun _ => st).Inv :=
  { h with
    store := ⟨hst, h.store.2⟩
    slots := ⟨fun i hi => absurd (hs i) hi, fun e (he : e ∈ st.entries) i hi => by simp [hn e he] at hi,
      h.slots.2.2⟩ }

theorem old_slots (n : Nat) : ∀ e ∈ (List.range n).map old, e.slot = none := by
  intro e he
  obtain ⟨i, -, rfl⟩ := List.mem_map.1 he
  rfl

theorem filled_inv (n : Nat) (h : n ≤ 512) : (filled n).Inv :=
  modStore_inv live_inv (by decide +kernel) (old_store n h) (old_slots n)

/-- A candidate of the victim's rank, 10, and one below it. -/
theorem witness_FullStoreAdmitsOrRefuses :
    (filled 512).Inv ∧ (∀ e ∈ (filled 512).store.entries, e.station ≠ 0 ∨ e.code ≠ 7) ∧ (filled 512).store.nextSeq < 4294967295 ∧
      (filled 512).store.entries.length = 512 ∧ victimOf (filled 512).store.entries = some (old 0) ∧ (old 0).rank = 8 + 2 :=
  ⟨filled_inv 512 (Nat.le_refl 512), by decide +kernel⟩

/-! Survey and dialogues -/

theorem witness_HandOffTriggersAndUrgency :
    let row := live.stationRow 1
    (live.Inv ∧ (due 1 0).Inv ∧ (urgent 1 0).Inv) ∧
    (row.enable = true ∧ row.announceTriggers = true ∧ live.clock.key = .on ∧ (live.station 1).run = .idle ∧
      (live.station 1).urgent = false) ∧
    ((due 1 0).station 1).run = .due ∧ ((due 1 0).station 1).urgent = false ∧
    ((urgent 1 0).station 1).urgent = true ∧ (live.stationRow 9).enable = false :=
  ⟨⟨live_inv, inv_of_check (by decide +kernel), inv_of_check (by decide +kernel)⟩, by decide +kernel⟩

theorem witness_GrantBindsTheHead :
    live.Inv ∧ live.nextGrant = none ∧
    (due 3 1).Inv ∧ (due 3 1).nextGrant = some { context := 0, port := 1, station := 3, urgent := false } ∧
    (due 3 1).scanOrder = [0] ++ 1 :: [2] ∧
    (urgent 3 1 (due 1 0 (talking receiving))).Inv ∧
    (urgent 3 1 (due 1 0 (talking receiving))).nextGrant =
      some { context := 1, port := 1, station := 3, urgent := true } :=
  ⟨live_inv, by decide +kernel, inv_of_check (by decide +kernel), by decide +kernel, by decide +kernel,
    inv_of_check (by decide +kernel), by decide +kernel⟩

theorem witness_QueryIsBuiltFromTheTemplate :
    fmt.ok = true ∧ row0.ok 65536 = true ∧
      ({ row0 with templateLength := 1 } : StationRow).ok 65536 = true ∧
      ({ fmt with byteOrder := .leastSignificantFirst, queryStart := ⟨6, 2⟩, queryWindow := 7 } : Descriptor).ok =
        true := by decide +kernel

/-- A first header, a restarted pass, a shrunk list, and a list that goes on, at N on both sides of the
expected index. -/
theorem witness_HeadersSettleThePass :
    let resumed := { waiting with origin := .resumed, resumeN := some 3, expected := 1 }
    let later := { waiting with n := some 3, expected := 2 }
    (talking waiting).context 0 = some waiting ∧ (talking resumed).context 0 = some resumed ∧
      (talking later).context 0 = some later ∧ (waiting.n = none ∧ waiting.origin = .fromZero) ∧
      (resumed.n = none ∧ resumed.origin = .resumed ∧ resumed.resumeN ≠ some 2) ∧
      (later.n ≠ none ∧ 1 < later.expected) ∧ ¬ (2 < later.expected) ∧ 2 ≤ later.expected ∧
      later.expected < 3 ∧ 0 ≤ waiting.expected ∧ waiting.expected < 1 := by decide +kernel

/-- The last record of a window, the last record of all, and one with more to come in its window; indexes
below, at and above the expected one; and a context that one of the checks asks to yield. -/
theorem witness_RecordsAdvanceTheDialogue :
    let last := { receiving with expected := 2, windowEnd := 3 }
    let more := { receiving with n := some 9, windowEnd := 9 }
    ((talking receiving).Inv ∧ (talking last).Inv ∧ (talking more).Inv) ∧
    (talking receiving).context 0 = some receiving ∧ (talking last).context 0 = some last ∧
    (talking more).context 0 = some more ∧ receiving.phase = .receiving ∧
    (0 < receiving.expected ∧ 1 = receiving.expected ∧ receiving.expected < 2) ∧
    last.n = some (last.expected + 1) ∧
    (receiving.n ≠ some (receiving.expected + 1) ∧ receiving.windowEnd = receiving.expected + 1) ∧
    (more.n ≠ some (more.expected + 1) ∧ more.windowEnd ≠ more.expected + 1) ∧
    owing.Inv ∧ owing.context 1 = some { receiving with station := 1, run := 9, grantTag := 1 } :=
  ⟨⟨inv_of_check (by decide +kernel), inv_of_check (by decide +kernel), inv_of_check (by decide +kernel)⟩,
    by decide +kernel, by decide +kernel, by decide +kernel, by decide +kernel, by decide +kernel,
    by decide +kernel, by decide +kernel, by decide +kernel, inv_of_check (by decide +kernel),
    by decide +kernel⟩

theorem witness_WaitTimerExpiryIsARetryPoint :
    let spent := { receiving with retries := 0 }
    let asked := { receiving with yieldPending := true }
    live.context 0 = none ∧ ((talking sending).context 0 = some sending ∧ sending.phase = .sending) ∧
    ((talking spent).context 0 = some spent ∧ spent.phase ≠ .sending ∧ spent.waitTimer ≠ none ∧ spent.retries = 0) ∧
    ((talking asked).context 0 = some asked ∧ asked.retries ≠ 0 ∧ asked.yieldPending = true) ∧
    ((talking receiving).context 0 = some receiving ∧ receiving.retries ≠ 0 ∧ receiving.yieldPending = false) := by
  decide +kernel

theorem witness_CloseRecordsTheOutcome :
    (talking receiving).Inv ∧ (talking receiving).context 1 = none ∧
      (talking receiving).context 0 = some receiving ∧ (talking receiving).management.pendingCommit = none :=
  ⟨inv_of_check (by decide +kernel), by decide +kernel⟩

/-- A dialogue with station 0 beside a row that waits. -/
def held (pc : PendingCommit) : State :=
  (talking receiving).modManagement fun m => { m with pendingCommit := some pc }

/-- Two dialogues, with stations 0 and 1, beside a row that waits. -/
def heldTwice (pc : PendingCommit) : State :=
  let t := ((held pc).setContext 1 (some { receiving with station := 1, grantTag := 1 })).modStation 1 fun x =>
    { x with run := .engaged }
  { t with engine := { t.engine with grants := 2 } }

/-- A station that its close puts back into its due queue keeps its place there under a row for the same port,
and leaves it under a row for another (R57, R97). -/
theorem test_suspended_close_applies_row :
    ((closeDialogue (held (.station 0 row0)) 0 .suspended).due 0).normal = [0] ∧
    ((closeDialogue (held (.station 0 { row0 with homePort := 1 })) 0 .suspended).due 0).normal = [] ∧
    ((closeDialogue (held (.station 0 { row0 with homePort := 1 })) 0 .suspended).station 0).run = .idle := by
  decide +kernel

theorem witness_CloseReleasesThePendingRow :
    ((held (.station 0 row0)).Inv ∧ (held (.format 0 fmt)).Inv ∧ (heldTwice (.station 1 row0)).Inv ∧
      (heldTwice (.format 0 fmt)).Inv) ∧
    (held (.station 0 row0)).context 0 = some receiving ∧
    (held (.station 0 row0)).management.pendingCommit = some (.station 0 row0) ∧
    ((held (.station 0 row0)).clock.key = .on ∧ row0.enable = true ∧ row0.homePort = 0 ∧
      (held (.station 0 row0)).dialoguePort receiving = 0) ∧
    ((heldTwice (.station 1 row0)).context 0 = some receiving ∧
      ((heldTwice (.station 1 row0)).station 1).run = .engaged) ∧
    (held (.format 0 fmt)).context 1 = none ∧
    ((heldTwice (.format 0 fmt)).context 1 = some { receiving with station := 1, grantTag := 1 } ∧
      ((heldTwice (.format 0 fmt)).stationRow 1).descriptor = 0) :=
  ⟨⟨inv_of_check (by decide +kernel), inv_of_check (by decide +kernel), inv_of_check (by decide +kernel),
    inv_of_check (by decide +kernel)⟩, by decide +kernel⟩

/-- The urgent station of a full port waits, beside a grant that is still possible on another; with that port
gone the look is settled; and a run at the limit of min run and max run, and one below it. -/
theorem witness_PreemptionAsksTheLargestRun :
    let gone := owing.modPort 1 fun u => { u with state := .busOff }
    let limit := fun n : Nat => owing.modTables fun t => { t with general := { t.general with maxRun := n } }
    (owing.preemptionVictim = some 1 ∧ owing.context 1 ≠ none ∧ owing.nextGrant ≠ none ∧
      owing.scanOrder = [] ++ 0 :: [1, 2] ∧ owing.boundTo 0 1 = true ∧ owing.boundTo 0 2 = false) ∧
    (gone.nextGrant = none ∧ gone.preemptionVictim = some 1) ∧
    (live.preemptionVictim = none ∧ live.nextGrant = none) ∧
    ((limit 1).general.minRun + (limit 1).general.maxRun = 9 ∧ (maxRunCheck (limit 1) 1) ≠ limit 1 ∧
      maxRunCheck (limit 1) 0 = limit 1 ∧ maxRunCheck (limit 0) 1 = limit 0) := by decide +kernel

theorem witness_TicksAndTheHold :
    (live.modClock fun k => { k with hold := true, holdTimer := some 0 }).clock.holdTimer ≠ none ∧
      live.clock.holdTimer = none := by decide +kernel

theorem witness_KeyEvents :
    live.clock.keyLoss = none ∧ (live.modClock fun k => { k with keyLoss := some 0 }).clock.keyLoss ≠ none := by
  decide +kernel

/-- A round below its end, one at its end in each mode, and no round. -/
theorem witness_RoundsAndSlotEvents :
    let ended := (running 300).modSurvey fun v => { v with endDue := true }
    let on := ended.modTables fun t => { t with general := { t.general with surveyMode := .continuous } }
    live.survey.state ≠ .running ∧ ((running 299).survey.state = .running ∧ (running 299).survey.endDue = false) ∧
    (ended.survey.endDue = true ∧ ended.general.surveyMode = .oncePerCycle) ∧ on.general.surveyMode = .continuous ∧
    1 < on.general.roundLength := by decide +kernel

theorem witness_SurveyIsStartedAndStopped :
    (talking receiving).Inv ∧ (talking receiving).context 0 = some receiving ∧
    (talking receiving).management.pendingCommit = none ∧ live.survey.grace = none ∧
    (live.modSurvey fun v => { v with grace := some 0 }).survey.grace ≠ none ∧
    (asked [9]).management.slot = .serving 0 [9] ∧ (asked [8, 2]).management.slot = .serving 0 [8, 2] ∧
    (asked [8, 1]).management.slot = .serving 0 [8, 1] ∧ 2 ≤ (2 : Byte).toNat ∧ (1 : Byte).toNat < 2 :=
  ⟨inv_of_check (by decide +kernel), by decide +kernel⟩

/-! Snapshots -/

/-- A trigger that is outstanding for the one entry, another for none; a FREE slot and none; a slot read and
not read. -/
theorem witness_CaptureTriggersAreTaken :
    let ask := fun s : State => s.modSnapshots fun u => { u with triggers := [⟨7, 0⟩, ⟨1, 0⟩] }
    let none := (withEntry entry).modSnapshots fun u =>
      { u with slots := Vector.replicate 24 { Slot.freed with state := .complete } }
    let deaf := (withEntry entry).modTables fun t => { t with stations := Vector.replicate 48 StationRow.default }
    ((∀ x ∈ (ask (withEntry entry)).snapshots.triggers, x.seq ≠ 2) ∧
      (live.modRetention fun r => { r with power := .sleep }).retention.power = .sleep) ∧
    ((ask (withEntry entry)).snapshots.triggers = [⟨7, 0⟩] ++ ⟨1, 0⟩ :: [] ∧ (∀ y ∈ [Trigger.mk 7 0], y.seq ≠ 1) ∧
      (ask (withEntry entry)).retention.power ≠ .sleep) ∧
    (deaf.stationRow 0).snapEnable = false ∧ (ask live).entry 1 = Option.none ∧
    ((live.stationRow 0).snapEnable = true ∧ storeCheck (withEntry entry).store = true ∧
      entry ∈ (withEntry entry).store.entries ∧ entry.seq = 1 ∧ entry.slot = Option.none) ∧
    (((withEntry entry).slot 0).state = .free ∧ (∀ j : SlotNo, j < 0 → ((withEntry entry).slot j).state ≠ .free) ∧
      ∀ i, (none.slot i).state ≠ .free) ∧
    (((withSlot true).slot 0).read = true ∧ ((withSlot false).slot 0).read = false) ∧
    (((withSlot false).modSlot 0 fun x => { x with state := .filling }).slot 0).state = .filling ∧
    (live.slot 0).state ≠ .filling := by decide +kernel

/-! Power -/

theorem witness_SavingAndSleep :
    let s := keyOff.modRetention fun r => { r with sleepTimer := .running 0 }
    (s.retention.sleepTimer = .running 0 ∧ s.retention.power = .run ∧ s.clock.key = .off ∧
      (∀ c, s.context c = none) ∧ s.streamer.state = .idle ∧ s.management.pendingCommit = none ∧
      s.serving = false) ∧
    (live.modRetention fun r => { r with sleepTimer := .running 0 }).clock.key = .on ∧
    live.retention.sleepTimer = .stopped ∧ live.retention.power ≠ .saving ∧
    (live.modRetention fun r => { r with power := .saving }).retention.power = .saving := by decide +kernel

theorem witness_WakeRestoresRun :
    let s := live.modRetention fun r => { r with power := .sleep }
    live.retention.power ≠ .sleep ∧ (State.reset.portRow 1).enable = false ∧
      (s.retention.power = .sleep ∧ (s.portRow 0).enable = true) := by decide +kernel

theorem witness_PowerOnLoadsTheImage :
    (live.modRetention fun r => { r with mark := .valid }).retention.mark = .valid ∧
      live.retention.mark ≠ .valid := by decide +kernel

/-! The management unit -/

theorem witness_AnswersAreQueuedOrHeld :
    let s := live.modManagement fun m => { m with slot := .waitingOutput 0 [[1], [2]] }
    s.management.slot = .waitingOutput 0 ([1] :: [[2]]) ∧ 0 < 8 - (s.port 0).output.length ∧
      8 - ((s.modPort 0 fun u => { u with output := List.replicate 8 (frame 1 []) }).port 0).output.length = 0 ∧
      live.management.slot = .empty := by decide +kernel

/-- Each kind of stream with room for its next frames, without room, at its end, and no stream. -/
theorem witness_StreamsQueueTheirFrames :
    let out := (withEntry entry).modStreamer fun x => { x with state := .streaming }
    let shots := (withSlot false).modStreamer fun x =>
      { x with state := .streaming, kind := .snapshot, total := 1, owner := 1 }
    let tight := fun s : State => s.modPort 0 fun u => { u with output := List.replicate 6 (frame 1 []) }
    let shut := fun s : State => s.modPort 0 fun u => { u with output := List.replicate 8 (frame 1 []) }
    live.readyToSleep = false ∧ live.streamer.state ≠ .streaming ∧
    (out.streamer.state = .streaming ∧ out.okHeld = false ∧ out.streamer.kind = .entries ∧
      3 ≤ out.freePlaces 0 ∧ (tight out).freePlaces 0 < 3 ∧ out.streamer.cursor ≤ entry.seq ∧
      out.streamer.filter = none ∧ entry.changed = true ∧ storeCheck out.store = true ∧
      entry ∈ out.store.entries ∧ (out.modStore fun st => { st with entries := [] }).store.entries = []) ∧
    (shots.streamer.kind = .snapshot ∧ shots.okHeld = false ∧ shots.streamer.slotLost = false ∧
      shots.streamer.sent < shots.streamer.total ∧ 3 ≤ shots.freePlaces 0 ∧ (tight shots).freePlaces 0 < 3 ∧
      ((shots.slot 0).pre ++ (shots.slot 0).post)[0]?.isSome = true) ∧
    ((shots.modStreamer fun x => { x with sent := 1 }).streamer.total ≤ 1 ∧ (shut shots).freePlaces 0 = 0 ∧
      (shots.modStreamer fun x => { x with slotLost := true }).streamer.slotLost = true) := by decide +kernel

theorem witness_NoticesAreCountedAndSent :
    let s := (live.modTables fun t => { t with general := { t.general with noticeEnable := true } }).modNotice fun n =>
      { n with count := 3, latest := some 258 }
    (s.retention.power ≠ .sleep ∧ s.general.noticeEnable = true ∧ s.notice.count ≠ 0 ∧ s.notice.timer = none ∧
      0 < s.freePlaces s.general.noticePort ∧ s.notice.latest = some 258) ∧ live.notice.count = 0 ∧
    ((asked [18, 1, 3, 1]).management.slot = .serving 0 [18, 1, 3, 1] ∧ 2 < (3 : Byte).toNat) ∧
    ((asked [18, 1, 2, 0]).management.slot = .serving 0 [18, 1, 2, 0] ∧ (2 : Port).val = (2 : Byte).toNat) ∧
    ((asked [18, 1, 2, 1]).management.slot = .serving 0 [18, 1, 2, 1] ∧ (1 : Byte) ≠ 0) := by decide +kernel

theorem witness_UnservedAndRefusedRequests :
    (live.readyToSleep = false ∧ live.serving = false) ∧
    ((asked [1]).readyToSleep = false ∧ (asked [1]).management.slot = .serving 0 [1] ∧
      requestKind [1] ≠ .commit) ∧
    (asked []).management.slot = .serving 0 [] ∧
    ((asked [0]).management.slot = .serving 0 [0] ∧ (asked [0x14]).management.slot = .serving 0 [0x14] ∧
      0x14 ≤ (0x14 : Byte).toNat) ∧
    (asked [0x0B, 1, 2, 3]).management.slot = .serving 0 (0x0B :: [1, 2, 3]) ∧
    [(1 : Byte), 2, 3].length < 4 := by decide +kernel

/-- The ends of every range that a status request names. -/
theorem witness_StatusRequestsReport :
    (asked [1]).management.slot = .serving 0 [1] ∧
    ((asked [2, 3]).management.slot = .serving 0 [2, 3] ∧ 3 ≤ (3 : Byte).toNat) ∧
    ((asked [2, 2]).management.slot = .serving 0 [2, 2] ∧ ((asked [2, 2]).port 2).state ≠ .dormant) ∧
    ((asked [3, 48]).management.slot = .serving 0 [3, 48] ∧ 48 ≤ (48 : Byte).toNat) ∧
    ((asked [3, 47]).management.slot = .serving 0 [3, 47] ∧ (47 : StationNo).val = (47 : Byte).toNat) ∧
    ((asked [0x13, 0, 0, 0, 9]).management.slot = .serving 0 [0x13, 0, 0, 0, 9] ∧
      ∀ e ∈ (withEntry entry).store.entries, e.seq ≠ 9) ∧
    (storeCheck (withEntry entry).store = true ∧ entry ∈ (withEntry entry).store.entries ∧ entry.seq = 1) ∧
    ((asked [4, 0, 95]).management.slot = .serving 0 [4, 0, 95] ∧ (95 : Fin 96).val = (95 : Byte).toNat) ∧
    ((asked [4, 4, 0]).management.slot = .serving 0 [4, 4, 0] ∧ 96 ≤ (96 : Byte).toNat ∧
      48 ≤ (48 : Byte).toNat ∧ 12 ≤ (12 : Byte).toNat ∧ 5 ≤ (5 : Byte).toNat) := by decide +kernel

theorem witness_StageWritesTheBuffer :
    ((asked [5, 32]).management.slot = .serving 0 [5, 32] ∧ 31 < (32 : Byte).toNat) ∧
    ((asked [5, 31, 1, 2]).management.slot = .serving 0 [5, 31, 1, 2] ∧ 32 < (31 : Byte).toNat + 2) ∧
    ((asked [5, 31, 1]).management.slot = .serving 0 [5, 31, 1] ∧ (31 : Byte).toNat ≤ 31 ∧
      (31 : Byte).toNat + 1 ≤ 32) := by decide +kernel

/-- A pending commit; rows out of range; of every table a row that passes its checks, and one that fails. -/
theorem witness_CommitChecksAndApplies :
    let put := fun (s : State) (bs : List Byte) => s.modManagement fun m =>
      { m with staging := writeStaging m.staging 0 bs }
    let bad := put live (List.replicate 32 0xEE)
    (asked [6, 0, 95]).management.slot = .serving 0 [6, 0, 95] ∧
    ((held (.station 0 row0)).management.pendingCommit ≠ none ∧ live.management.pendingCommit = none) ∧
    (decodeIdent bad.management.staging.toList = none ∧ decodeStation 300 bad.management.staging.toList = none ∧
      decodeFormat bad.management.staging.toList = none ∧ decodePort 2 bad.management.staging.toList = none ∧
      decodeGeneral bad.management.staging.toList = none) ∧
    decodeIdent (put live (encodeIdent IdentRow.default0)).management.staging.toList = some IdentRow.default0 ∧
    (decodeStation live.general.roundLength (put live (encodeStation row0)).management.staging.toList = some row0 ∧
      ((talking receiving).station 0).run = .engaged ∧ (live.station 0).run ≠ .engaged ∧
      ((due 1 0).station 1).run = .due) ∧
    (decodeFormat (put live (encodeFormat fmt)).management.staging.toList = some fmt ∧
      ((talking receiving).stationRow 0).descriptor = 0 ∧ ∀ st, (live.station st).run ≠ .engaged) ∧
    decodePort 2 (put live (encodePort PortRow.default0)).management.staging.toList = some PortRow.default0 ∧
    owing.nextGrant ≠ none ∧
    decodeGeneral (put live (encodeGeneral GeneralRow.default)).management.staging.toList =
      some GeneralRow.default := by decide +kernel

theorem witness_SoftResetKeepsTheHistory :
    (asked [7] (talking receiving)).Inv ∧ (asked [7] (talking receiving)).management.slot = .serving 0 [7] ∧
      (asked [7] (talking receiving)).context 0 = some receiving :=
  ⟨inv_of_check (by decide +kernel), by decide +kernel⟩

theorem witness_ReadNowSetClockRecover :
    ((asked [10, 48]).management.slot = .serving 0 [10, 48] ∧ 48 ≤ (48 : Byte).toNat) ∧
    ((asked [10, 47]).management.slot = .serving 0 [10, 47] ∧ (47 : StationNo).val = (47 : Byte).toNat ∧
      (live.stationRow 47).enable = false) ∧
    ((asked [10, 0]).management.slot = .serving 0 [10, 0] ∧ (live.stationRow 0).enable = true ∧
      ((talking receiving).station 0).run = .engaged) ∧
    (((urgent 1 0).station 1).run = .due ∧ ((urgent 1 0).station 1).urgent = true) ∧
    ((live.station 0).run ≠ .engaged ∧ (live.station 0).urgent = false) ∧
    (((due 1 0).station 1).run = .due ∧ ((due 1 0).station 1).urgent = false) ∧
    (asked [11, 1, 2, 3, 4]).management.slot = .serving 0 [11, 1, 2, 3, 4] ∧
    ((asked [12, 3]).management.slot = .serving 0 [12, 3] ∧ 3 ≤ (3 : Byte).toNat) ∧
    ((asked [12, 2]).management.slot = .serving 0 [12, 2] ∧ (2 : Port).val = (2 : Byte).toNat ∧
      (live.port 2).state ≠ .busOff ∧ ((live.modPort 2 fun u => { u with state := .busOff }).port 2).state = .busOff) := by
  decide +kernel

theorem witness_ReadNowQueues : DueOk live ∧ DueOk (due 1 0) := ⟨live_inv.due, (inv_of_check (s := due 1 0) (by decide +kernel)).due⟩

theorem witness_ClearAndRelease :
    ((asked [13, 0] (withSlot true)).Inv ∧ (asked [13, 48]).Inv ∧ (asked [13, 255] (withSlot true)).Inv ∧
      (asked [17, 0, 0, 0, 1] (withSlot false)).Inv ∧ (asked [17, 0, 0, 0, 1] (withEntry entry)).Inv) ∧
    (asked [13, 0] (withSlot true)).management.slot = .serving 0 [13, 0] ∧
    ((asked [13, 48]).management.slot = .serving 0 [13, 48] ∧ 48 ≤ (48 : Byte).toNat ∧ (48 : Byte) ≠ 0xFF) ∧
    (asked [13, 255] (withSlot true)).management.slot = .serving 0 [13, 255] ∧
    ((asked [17, 0, 0, 0, 1] (withSlot false)).management.slot = .serving 0 [17, 0, 0, 0, 1] ∧
      { entry with slot := some 0 } ∈ (asked [17, 0, 0, 0, 1] (withSlot false)).store.entries ∧ entry.seq = 1) ∧
    ∀ e ∈ (asked [17, 0, 0, 0, 1] (withEntry entry)).store.entries, e.seq = 1 → e.slot = none :=
  ⟨⟨inv_of_check (by decide +kernel), inv_of_check (by decide +kernel), inv_of_check (by decide +kernel),
    inv_of_check (by decide +kernel), inv_of_check (by decide +kernel)⟩, by decide +kernel⟩

theorem witness_StreamRequestsSetTheStreamer :
    let on := live.modStreamer fun x => { x with state := .streaming }
    (asked [14, 0, 0, 0, 1, 255, 0]).management.slot = .serving 0 [14, 0, 0, 0, 1, 255, 0] ∧
    (on.streamer.state ≠ .idle ∧ live.streamer.state = .idle) ∧
    ((asked [14, 0, 0, 0, 1, 48, 0]).management.slot = .serving 0 [14, 0, 0, 0, 1, 48, 0] ∧ 48 ≤ (48 : Byte).toNat ∧
      (48 : Byte) ≠ 0xFF) ∧
    ((asked [14, 0, 0, 0, 1, 47, 0]).management.slot = .serving 0 [14, 0, 0, 0, 1, 47, 0] ∧
      (47 : StationNo).val = (47 : Byte).toNat) ∧
    ((asked [16, 0, 0, 0, 1]).management.slot = .serving 0 [16, 0, 0, 0, 1] ∧
      (∀ e ∈ (withEntry entry).store.entries, e.seq = 1 → e.slot = none) ∧ storeCheck (withSlot true).store = true ∧
      { entry with slot := some 0 } ∈ (withSlot true).store.entries) ∧
    (asked [15]).management.slot = .serving 0 [15] := by decide +kernel

end Sys2Proof.Tests
end

/-! PROOFS. What a command may do to the history store, said once: the rewritings of one entry, the
evolutions of a store, and what each of them keeps (chapters 1 and 2). -/

namespace Sys2Proof.Machine

/-! ### Rewritings of an entry -/

/-- What one entry may become in place: another slot or snapshot-missed flag, its seen mark cleared, its
changed flag cleared as it is sent, GONE, or merged. Merges are among `M`; entries of the stations of `G`
may be marked GONE, and nothing is sent by a command that marks. -/
inductive Entry.Rewrites (M : Merge → Prop) (G : StationNo → Prop) (e : Entry) : Entry → Prop
  | annotated (slot : Option SlotNo) (missed : Bool) : Rewrites M G e { e with slot := slot, missed := missed }
  | unseen : Rewrites M G e { e with seen := false }
  | sent (none : ∀ x, ¬ G x) : Rewrites M G e { e with changed := false }
  | gone (mark : G e.station) (unseen : e.seen = false) :
      Rewrites M G e { e with state := .gone, changed := true }
  | merged (m : Merge) (c k : Nat) (mem : M m) : Rewrites M G e (mergedEntry e m c k)

/-- A GONE entry is one of the stations of `G`, with its seen mark clear and its changed flag set. -/
def Entry.GoneAs (G : StationNo → Prop) (e : Entry) : Prop :=
  e.state = .gone → G e.station ∧ e.seen = false ∧ e.changed = true

/-- What a later entry keeps of an earlier one (R2, R26, R30, R33 to R36). T saturates at 65,535. -/
structure Entry.Continues (G : StationNo → Prop) (e e' : Entry) : Prop where
  seq : e.seq = e'.seq
  station : e.station = e'.station
  code : e.code = e'.code
  total : min 65535 e.total ≤ e'.total
  peak : e.peak ≤ e'.peak
  firstReport : e.firstReport = e'.firstReport
  firstActive : e.firstActive ≠ none → e'.firstActive = e.firstActive
  lastActive : e.lastActive ≠ none → e'.lastActive ≠ none
  last : e.last ≠ none → e'.last ≠ none
  announce : e.sources.announce = true → e'.sources.announce = true
  readback : e.sources.readback = true → e'.sources.readback = true
  gone : e.GoneAs G → e'.GoneAs G

variable {M : Merge → Prop} {G : StationNo → Prop} {e e' e'' : Entry} {m : Merge}

theorem Entry.Continues.refl (e : Entry) : e.Continues G e where
  seq := rfl
  station := rfl
  code := rfl
  total := Nat.min_le_right ..
  peak := le_rfl
  firstReport := rfl
  firstActive _ := rfl
  lastActive := id
  last := id
  announce := id
  readback := id
  gone := id

theorem Entry.Continues.trans (h : e.Continues G e') (k : e'.Continues G e'') : e.Continues G e'' where
  seq := h.seq.trans k.seq
  station := h.station.trans k.station
  code := h.code.trans k.code
  total := by have := h.total; have := k.total; omega
  peak := h.peak.trans k.peak
  firstReport := h.firstReport.trans k.firstReport
  firstActive ha := (k.firstActive (h.firstActive ha ▸ ha)).trans (h.firstActive ha)
  lastActive := k.lastActive ∘ h.lastActive
  last := k.last ∘ h.last
  announce := k.announce ∘ h.announce
  readback := k.readback ∘ h.readback
  gone := k.gone ∘ h.gone

/-! ### What a merge does to an entry -/

/-- The ranges of a merge's inputs (Table 2.1, R24). -/
def Merge.InRange (m : Merge) : Prop :=
  m.code ≤ 16777215 ∧ m.severity ≤ 7 ∧
    ∀ rep, m.count = some rep → (rep.m = 256 ∨ rep.m = 65536) ∧ rep.r < rep.m ∧ 1 ≤ rep.g ∧ rep.g < rep.m

theorem sat16_le (a b : Nat) : sat16 a b ≤ 65535 := Nat.min_le_left ..

theorem le_sat16 (a b : Nat) : min 65535 a ≤ sat16 a b := by
  unfold sat16 satAdd; omega

theorem reconciledTotal_bounds (t : Nat) (held : LastCount) (rep : ReportedCount) :
    min 65535 t ≤ reconciledTotal t held rep ∧ (t ≤ 65535 → reconciledTotal t held rep ≤ 65535) := by
  unfold reconciledTotal
  dsimp only
  split
  · exact ⟨Nat.min_le_right .., id⟩
  · split <;> exact ⟨le_sat16 .., fun _ => sat16_le ..⟩

/-- T never falls, but by its saturation (R26). -/
theorem le_mergedTotal (e : Entry) (m : Merge) : min 65535 e.total ≤ mergedTotal e m := by
  unfold mergedTotal
  split
  · exact (reconciledTotal_bounds ..).1
  · omega
  · split
    · exact le_sat16 ..
    · exact Nat.min_le_right ..
  · exact Nat.min_le_right ..

theorem mergedTotal_le (he : e.total ≤ 65535) (hm : m.InRange) : mergedTotal e m ≤ 65535 := by
  obtain ⟨-, -, hcount⟩ := hm
  unfold mergedTotal
  split
  · exact (reconciledTotal_bounds ..).2 he
  · next _ _ rep hrep _ =>
    have := hcount rep hrep
    omega
  · split
    · exact sat16_le ..
    · exact he
  · exact he

theorem toEntry_ne_gone (x : ReportedState) : x.toEntry ≠ .gone := by cases x <;> simp [ReportedState.toEntry]

theorem Sources.add_announce (x : Sources) (src : MergeSource) (h : x.announce = true) :
    (x.add src).announce = true := by cases src <;> simp [Sources.add, h]

theorem Sources.add_readback (x : Sources) (src : MergeSource) (h : x.readback = true) :
    (x.add src).readback = true := by cases src <;> simp [Sources.add, h]

theorem mergedEntry_continues (e : Entry) (m : Merge) (c k : Nat) : e.Continues G (mergedEntry e m c k) where
  seq := rfl
  station := rfl
  code := rfl
  total := le_mergedTotal e m
  peak := Nat.le_max_left ..
  firstReport := rfl
  firstActive h := by simp [mergedEntry, h]
  lastActive h := by
    unfold mergedEntry
    dsimp only
    split
    · simp
    · exact h
  last h := by
    unfold mergedEntry
    dsimp only
    split
    · simp
    · exact h
  announce := Sources.add_announce _ _
  readback := Sources.add_readback _ _
  gone _ h := absurd h (toEntry_ne_gone m.state)

theorem mergedEntry_inRange (he : e.InRange) (hm : m.InRange) (c k : Nat) : (mergedEntry e m c k).InRange := by
  obtain ⟨hcode, hpeak, hlow, hhigh, hlast⟩ := he
  obtain ⟨-, hseverity, hcount⟩ := id hm
  have htotal := le_mergedTotal e m
  refine ⟨hcode, max_le hpeak hseverity, ?_, mergedTotal_le hhigh hm, fun x hx => ?_⟩
  · change 1 ≤ mergedTotal e m
    omega
  · unfold mergedEntry at hx
    dsimp only at hx
    split at hx
    · next rep hrep =>
      cases hx
      exact hcount rep hrep
    · exact hlast x hx

theorem newEntry_inRange (hm : m.InRange) (seq c k : Nat) : (newEntry seq m c k).InRange := by
  obtain ⟨hcode, hseverity, hcount⟩ := hm
  have htotal : 1 ≤ newTotal m ∧ newTotal m ≤ 65535 := by
    unfold newTotal
    split
    · next rep hrep =>
      have := hcount rep hrep
      split <;> omega
    · omega
  refine ⟨hcode, hseverity, htotal.1, htotal.2, fun x hx => ?_⟩
  obtain ⟨rep, hrep, rfl⟩ := Option.map_eq_some_iff.1 hx
  exact hcount rep hrep

/-! ### What every rewriting keeps -/

theorem Entry.Rewrites.continues (h : e.Rewrites M G e') : e.Continues G e' := by
  cases h with
  | annotated => exact { Entry.Continues.refl (G := G) e with gone := id }
  | unseen =>
    refine { Entry.Continues.refl (G := G) e with gone := fun h hs => ?_ }
    obtain ⟨hmark, -, hchanged⟩ := h hs
    exact ⟨hmark, rfl, hchanged⟩
  | sent none => exact { Entry.Continues.refl (G := G) e with gone := fun h hs => absurd (h hs).1 (none _) }
  | gone mark unseen => exact { Entry.Continues.refl (G := G) e with gone := fun _ _ => ⟨mark, unseen, rfl⟩ }
  | merged m c k => exact mergedEntry_continues e m c k

theorem Entry.Rewrites.inRange (hM : ∀ m, M m → m.InRange) (h : e.Rewrites M G e') (he : e.InRange) :
    e'.InRange := by
  cases h with
  | merged m c k mem => exact mergedEntry_inRange he (hM m mem) c k
  | annotated | unseen | sent | gone => exact he

/-! ### Evolutions of the store -/

/-- What a command may make of the history store: counts rise, entries are rewritten in place or removed, and
an entry of a new key is created into room with the next sequence number (R4, R5, R9 to R12, R19). -/
inductive Store.Evolves (M : Merge → Prop) (G : StationNo → Prop) : Store → Store → Prop
  | refl (a : Store) : Evolves M G a a
  | trans {a b c : Store} : Evolves M G a b → Evolves M G b c → Evolves M G a c
  | evicted (a : Store) : Evolves M G a { a with evictions := sat16 a.evictions 1 }
  | refused (a : Store) : Evolves M G a { a with refusals := sat16 a.refusals 1 }
  | rewritten (a : Store) (q : Entry → Bool) (f : Entry → Entry)
      (each : ∀ e ∈ a.entries, q e = true → e.Rewrites M G (f e)) :
      Evolves M G a { a with entries := a.entries.map fun e => if q e then f e else e }
  | removed (a : Store) (q : Entry → Bool) : Evolves M G a { a with entries := a.entries.filter q }
  | created (a : Store) (m : Merge) (c k : Nat) (mem : M m)
      (new : ∀ e ∈ a.entries, ¬ (e.station = m.station ∧ e.code = m.code))
      (room : a.entries.length < 512) (below : a.nextSeq < 4294967295) :
      Evolves M G a
        { a with entries := a.entries ++ [newEntry a.nextSeq m c k], nextSeq := a.nextSeq + 1 }

/-- What a later store keeps of an earlier one: an entry continues one that was there, or is new (R4). -/
structure Store.Continues (G : StationNo → Prop) (a b : Store) : Prop where
  nextSeq : a.nextSeq ≤ b.nextSeq
  entries : ∀ e' ∈ b.entries,
    (∃ e ∈ a.entries, e.Continues G e') ∨ (a.nextSeq ≤ e'.seq ∧ e'.seq < b.nextSeq)

variable {a b : Store}

theorem Store.Continues.trans {c : Store} (h : a.Continues G b) (k : b.Continues G c) : a.Continues G c := by
  refine ⟨h.nextSeq.trans k.nextSeq, fun e'' he'' => ?_⟩
  rcases k.entries e'' he'' with ⟨e', he', hk⟩ | ⟨hlow, hhigh⟩
  · rcases h.entries e' he' with ⟨e, he, hh⟩ | ⟨hlow, hhigh⟩
    · exact .inl ⟨e, he, hh.trans hk⟩
    · exact .inr ⟨hk.seq ▸ hlow, hk.seq ▸ hhigh.trans_le k.nextSeq⟩
  · exact .inr ⟨h.nextSeq.trans hlow, hhigh⟩

/-- Every entry of an evolved store continues one that was there, or is new. -/
theorem Store.Evolves.continues (h : Store.Evolves M G a b) : a.Continues G b := by
  induction h with
  | refl a | evicted a | refused a => exact ⟨le_rfl, fun e he => .inl ⟨e, he, .refl e⟩⟩
  | trans _ _ ih ih' => exact ih.trans ih'
  | rewritten a q f each =>
    refine ⟨le_rfl, fun e' he' => .inl ?_⟩
    obtain ⟨e, he, rfl⟩ := List.mem_map.1 he'
    refine ⟨e, he, ?_⟩
    split
    · next hq => exact (each e he hq).continues
    · exact .refl e
  | removed a q => exact ⟨le_rfl, fun e he => .inl ⟨e, List.mem_of_mem_filter he, .refl e⟩⟩
  | created a m c k =>
    refine ⟨Nat.le_succ _, fun e' he' => ?_⟩
    rcases List.mem_append.1 he' with he' | he'
    · exact .inl ⟨e', he', .refl e'⟩
    · cases List.mem_singleton.1 he'
      exact .inr ⟨le_rfl, Nat.lt_succ_self _⟩

/-! ### Every evolution keeps the store in order -/

theorem Store.Ok.length_le (h : a.Ok) : a.entries.length ≤ 512 := h.1

theorem Store.Ok.sorted (h : a.Ok) : (a.entries.map Entry.seq).Pairwise (· < ·) := h.2.1

/-- Every entry of a store in order has a sequence number below the next, and fields in range (R2, R4). -/
theorem Store.Ok.entry (h : a.Ok) (he : e ∈ a.entries) : 1 ≤ e.seq ∧ e.seq < a.nextSeq ∧ e.InRange := h.2.2.1 e he

theorem Store.Ok.seqs_nodup (h : a.Ok) : (a.entries.map Entry.seq).Nodup := h.sorted.imp Nat.ne_of_lt

/-- A sequence number names one entry (R2). -/
theorem Store.Ok.eq_of_seq (h : a.Ok) (he : e ∈ a.entries) (he' : e' ∈ a.entries) (hseq : e.seq = e'.seq) : e = e' :=
  List.inj_on_of_nodup_map h.seqs_nodup he he' hseq

/-- Entries rewritten in place, each with its key and its sequence number, leave the store in order. -/
theorem Store.Ok.mapped (h : a.Ok) (f : Entry → Entry)
    (hf : ∀ e ∈ a.entries, (f e).seq = e.seq ∧ (f e).station = e.station ∧ (f e).code = e.code ∧
      (e.InRange → (f e).InRange)) :
    Store.Ok { a with entries := a.entries.map f } := by
  obtain ⟨hlen, hseq, hent, hkey, hrest⟩ := h
  refine ⟨by simpa using hlen, ?_, fun e' he' => ?_, ?_, hrest⟩
  · rwa [List.map_map, show a.entries.map (Entry.seq ∘ f) = a.entries.map Entry.seq from
      List.map_congr_left fun e he => (hf e he).1]
  · obtain ⟨e, he, rfl⟩ := List.mem_map.1 he'
    obtain ⟨fseq, -, -, frange⟩ := hf e he
    obtain ⟨hlow, hhigh, hrange⟩ := hent e he
    rw [fseq]
    exact ⟨hlow, hhigh, frange hrange⟩
  · rw [List.map_map]
    rwa [List.map_congr_left fun e he => by
      obtain ⟨-, fstation, fcode, -⟩ := hf e he
      rw [Function.comp_apply, fstation, fcode]]

/-- A store without some of its entries is in order. -/
theorem Store.Ok.filtered (h : a.Ok) (q : Entry → Bool) : Store.Ok { a with entries := a.entries.filter q } := by
  obtain ⟨hlen, hseq, hent, hkey, hrest⟩ := h
  exact ⟨(List.length_filter_le ..).trans hlen, hseq.sublist (List.filter_sublist.map _),
    fun e he => hent e (List.mem_of_mem_filter he), hkey.sublist (List.filter_sublist.map _), hrest⟩

/-- An entry created with the next sequence number, under a new key and into room, leaves the store in
order (R1, R2, R4). -/
theorem Store.Ok.appended (h : a.Ok) {x : Entry} (hseq : x.seq = a.nextSeq) (hx : x.InRange)
    (new : ∀ e ∈ a.entries, ¬ (e.station = x.station ∧ e.code = x.code))
    (room : a.entries.length < 512) (below : a.nextSeq < 4294967295) :
    Store.Ok { a with entries := a.entries ++ [x], nextSeq := a.nextSeq + 1 } := by
  obtain ⟨-, hsorted, hent, hkey, hone, -, hcounts⟩ := h
  refine ⟨by simpa using room, ?_, fun e he => ?_, ?_, hone.trans (Nat.le_succ _), below, hcounts⟩
  · rw [List.map_append, List.pairwise_append]
    refine ⟨hsorted, by simp, fun n hn n' hn' => ?_⟩
    obtain ⟨e, he, rfl⟩ := List.mem_map.1 hn
    obtain rfl : n' = x.seq := by simpa using hn'
    obtain ⟨-, hhigh, -⟩ := hent e he
    exact hseq ▸ hhigh
  · rcases List.mem_append.1 he with he | he
    · obtain ⟨hlow, hhigh, hrange⟩ := hent e he
      exact ⟨hlow, hhigh.trans (Nat.lt_succ_self _), hrange⟩
    · cases List.mem_singleton.1 he
      exact ⟨hseq ▸ hone, hseq ▸ Nat.lt_succ_self _, hx⟩
  · rw [List.map_append, List.nodup_append]
    refine ⟨hkey, by simp, fun y hy y' hy' hyy => ?_⟩
    obtain ⟨e, he, rfl⟩ := List.mem_map.1 hy
    obtain rfl : y' = (x.station, x.code) := by simpa using hy'
    exact new e he (Prod.mk.inj hyy)

theorem Store.Evolves.ok (hM : ∀ m, M m → m.InRange) (h : Store.Evolves M G a b) : a.Ok → b.Ok := by
  induction h with
  | refl => exact id
  | trans _ _ ih ih' => exact ih' ∘ ih
  | evicted =>
    rintro ⟨hlen, hseq, hent, hkey, hone, hmax, -, hrefused⟩
    exact ⟨hlen, hseq, hent, hkey, hone, hmax, sat16_le .., hrefused⟩
  | refused =>
    rintro ⟨hlen, hseq, hent, hkey, hone, hmax, hevicted, -⟩
    exact ⟨hlen, hseq, hent, hkey, hone, hmax, hevicted, sat16_le ..⟩
  | rewritten a q f each =>
    refine fun h => h.mapped _ fun e he => ?_
    split
    · next hq =>
      have hr := each e he hq
      exact ⟨hr.continues.seq.symm, hr.continues.station.symm, hr.continues.code.symm, hr.inRange hM⟩
    · exact ⟨rfl, rfl, rfl, id⟩
  | removed a q => exact fun h => h.filtered q
  | created a m c k mem new room below =>
    exact fun h => h.appended rfl (newEntry_inRange (hM m mem) ..) (fun e he => new e he) room below

end Sys2Proof.Machine

/-! PROOFS. What each operation of the model does to the history store: nothing, or an evolution of it. -/

namespace Sys2Proof.Machine

/-! ### Components that the frame lemmas leave, by name -/

theorem maxRunChecks_survey (s : State) (p : Port) : (maxRunChecks s p).survey = s.survey := by simp

theorem lookCheck_survey (s : State) : (lookCheck s).survey = s.survey := by simp

theorem settleLook_survey (s before : State) : (settleLook s before).survey = s.survey := by simp

theorem ringStep_survey (s : State) (n : Nat) (p : Port) (x : RingFrame) : (ringStep s n p x).survey = s.survey := by
  simp

theorem ringStep_retention (s : State) (n : Nat) (p : Port) (x : RingFrame) :
    (ringStep s n p x).retention = s.retention := by simp

theorem removeEntries_survey (s : State) (q : Entry → Bool) : (removeEntries s q).survey = s.survey := by simp

theorem surveyKeyOn_retention (s : State) : (surveyKeyOn s).retention = s.retention := by simp

theorem surveyKeyOff_retention (s : State) : (surveyKeyOff s).retention = s.retention := by simp

theorem commitClockSource_retention (s : State) (old new : ClockSource) :
    (commitClockSource s old new).retention = s.retention := by simp

theorem recordOutcome_management (s : State) (d : Dialogue) (o : Closing) :
    (recordOutcome s d o).management = s.management := by simp

theorem handOff_store (s : State) (seq : Nat) (m : Merge) : (handOff s seq m).store = s.store := by simp

theorem sendQuery_store (s : State) (c : ContextNo) : (sendQuery s c).store = s.store := by simp

theorem endExport_store (s : State) : (endExport s).store = s.store := by simp

theorem keyOnAtStart_store (s : State) : (keyOnAtStart s).store = s.store := by simp

/-! ### Operations that leave the store -/

/-- A close without COMPLETE leaves the store (R15, R97). -/
theorem closeDialogue_store {s : State} {c : ContextNo} {o : Closing} (ho : o ≠ .complete) :
    (closeDialogue s c o).store = s.store := by
  unfold closeDialogue
  split <;> simp [ho]

@[simp] theorem cutAll_store (s : State) : (cutAll s).store = s.store :=
  foldl_keeps State.store _ (fun _ _ => closeDialogue_store (by decide)) _ _

@[simp] theorem losePort_store (s : State) (p : Port) : (losePort s p).store = s.store := by
  refine foldl_keeps State.store _ (fun t c => ?_) _ _
  split
  · exact closeDialogue_store (by decide)
  · rfl

@[simp] theorem retryPoint_store (s : State) (c : ContextNo) : (retryPoint s c).store = s.store := by
  unfold retryPoint
  (repeat' split) <;> simp [closeDialogue_store]

@[simp] theorem windowBoundary_store (s : State) (c : ContextNo) (d : Dialogue) :
    (windowBoundary s c d).store = s.store := by
  unfold windowBoundary
  dsimp only
  split <;> simp [closeDialogue_store]

@[simp] theorem startGrace_store (s : State) : (startGrace s).store = s.store := by
  unfold startGrace
  split <;> simp

@[simp] theorem surveyKeyOff_store (s : State) : (surveyKeyOff s).store = s.store := by
  unfold surveyKeyOff
  cases s.survey.state <;> simp

@[simp] theorem keyOffEvent_store (s : State) : (keyOffEvent s).store = s.store := by
  simp [keyOffEvent]

@[simp] theorem keyValue_store (s : State) (raw : Nat) (mask on : BitVec 32) :
    (keyValue s raw mask on).store = s.store := by
  unfold keyValue applyReading
  (repeat' split) <;> simp

@[simp] theorem takeKey_store (s : State) (p : Port) (row : IdentRow) (data : List Byte) :
    (takeKey s p row data).store = s.store := by
  unfold takeKey
  dsimp only
  split <;> simp

@[simp] theorem enterBusOff_store (s : State) (p : Port) : (enterBusOff s p).store = s.store := by
  simp [enterBusOff]

@[simp] theorem frameFailed_store (s : State) (p : Port) : (frameFailed s p).store = s.store := by
  unfold frameFailed
  (repeat' split) <;> simp

@[simp] theorem applyPortRow_store (s : State) (p : Port) (row : PortRow) :
    (applyPortRow s p row).store = s.store := by
  simp [applyPortRow]

@[simp] theorem stopSurvey_store (s : State) : (stopSurvey s).store = s.store := by
  simp [stopSurvey]

@[simp] theorem softReset_store (s : State) : (softReset s).store = s.store := by
  simp [softReset]

@[simp] theorem passMillisecond_store (s : State) : (passMillisecond s).store = s.store := by
  unfold passMillisecond
  dsimp only
  split <;> rfl

/-! ### Operations on slots -/

variable {M : Merge → Prop} {G : StationNo → Prop}

theorem modEntries_evolves (s : State) (q : Entry → Bool) (f : Entry → Entry)
    (each : ∀ e ∈ s.store.entries, q e = true → e.Rewrites M G (f e)) :
    Store.Evolves M G s.store (s.modEntries q f).store := .rewritten s.store q f each

theorem freeSlotOf_evolves (s : State) (e : Entry) : Store.Evolves M G s.store (freeSlotOf s e).store := by
  unfold freeSlotOf
  split
  · exact modEntries_evolves (s.modSlot _ _) _ _ fun e _ _ => .annotated none e.missed
  · exact .refl _

theorem freeSlot_evolves (s : State) (i : SlotNo) : Store.Evolves M G s.store (freeSlot s i).store :=
  modEntries_evolves (s.modSlot _ _) _ _ fun e _ _ => .annotated none e.missed

/-- A fold of operations that each let the store evolve. -/
theorem foldl_evolves {β : Type} (f : State → β → State)
    (h : ∀ s b, Store.Evolves M G s.store (f s b).store) (l : List β) :
    ∀ s : State, Store.Evolves M G s.store (l.foldl f s).store := by
  induction l with
  | nil => exact fun s => .refl _
  | cons b l ih => exact fun s => (h s b).trans (ih _)

theorem removeEntries_evolves (s : State) (q : Entry → Bool) :
    Store.Evolves M G s.store (removeEntries s q).store :=
  (foldl_evolves freeSlotOf freeSlotOf_evolves _ s).trans (.removed _ _)

theorem captureInto_evolves (s : State) (seq : Nat) (row : StationRow) (i : SlotNo) :
    Store.Evolves M G s.store (captureInto s seq row i).store :=
  modEntries_evolves (s.modSlot _ _) _ _ fun _ _ _ => .annotated (some i) false

theorem missCapture_evolves (s : State) (seq : Nat) : Store.Evolves M G s.store (missCapture s seq).store :=
  modEntries_evolves s _ _ fun e _ _ => .annotated e.slot true

/-- What becomes of a capture trigger (R145, Table 9.3). -/
theorem takeTrigger_cases (s : State) (t : Trigger) :
    takeTrigger s t = s ∨ (∃ row i, takeTrigger s t = captureInto s t.seq row i) ∨
      takeTrigger s t = missCapture s t.seq := by
  unfold takeTrigger
  dsimp only
  (repeat' split) <;> simp

theorem takeTrigger_evolves (s : State) (t : Trigger) : Store.Evolves M G s.store (takeTrigger s t).store := by
  rcases takeTrigger_cases s t with h | ⟨row, i, h⟩ | h <;> rw [h]
  · exact .refl _
  · exact captureInto_evolves ..
  · exact missCapture_evolves ..

theorem takeNewestTrigger_evolves (s : State) : Store.Evolves M G s.store (takeNewestTrigger s).store := by
  unfold takeNewestTrigger
  split
  · exact .refl _
  · exact takeTrigger_evolves (s.modSnapshots _) _

theorem ringStep_evolves (s : State) (before : Nat) (p : Port) (x : RingFrame) :
    Store.Evolves M G s.store (ringStep s before p x).store := by
  unfold ringStep
  (repeat' split) <;> simp only [enterRing_frame, State.choose_store]
  · exact takeNewestTrigger_evolves s.choose
  · exact .refl _
  · exact .refl _

/-! ### Merges -/

theorem createEntry_store (s : State) (m : Merge) :
    (createEntry s m).store = { s.store with
      entries := s.store.entries ++ [newEntry s.store.nextSeq m s.clock.c s.clock.k]
      nextSeq := s.store.nextSeq + 1 } := by
  simp [createEntry]

theorem entryOfKey_eq_none {s : State} {st : StationNo} {code : Nat} :
    s.entryOfKey st code = none ↔ ∀ e ∈ s.store.entries, ¬ (e.station = st ∧ e.code = code) := by
  simp [State.entryOfKey]

/-- A victim is one of the entries. -/
theorem victimOf_mem {es : List Entry} {v : Entry} (h : victimOf es = some v) : v ∈ es := by
  induction es generalizing v with
  | nil => cases h
  | cons e es ih =>
    unfold victimOf at h
    split at h
    · cases h; exact List.mem_cons_self
    · next w hw =>
      split at h <;> cases h
      · exact List.mem_cons_self
      · exact List.mem_cons_of_mem _ (ih hw)

/-- Only the empty store has no victim. -/
theorem victimOf_eq_none {es : List Entry} (h : victimOf es = none) : es = [] := by
  cases es with
  | nil => rfl
  | cons e es =>
    unfold victimOf at h
    split at h
    · cases h
    · split at h <;> cases h

/-- An entry without its slot, when one of the given entries had that slot. -/
def Entry.unbound (freed : List Entry) (e : Entry) : Entry :=
  if e.slot ∈ freed.map Entry.slot then { e with slot := none } else e

/-- Entries with other slots, or without one, stay as they are. -/
theorem Entry.unbound_eq_self {freed : List Entry} {e : Entry}
    (h : e.slot ∈ freed.map Entry.slot → e.slot = none) : e.unbound freed = e := by
  unfold Entry.unbound
  split
  · next hm => rw [← h hm]
  · rfl

theorem map_unbound_eq_self {freed es : List Entry}
    (h : ∀ e ∈ es, e.slot ∈ freed.map Entry.slot → e.slot = none) : es.map (Entry.unbound freed) = es := by
  rw [List.map_congr_left fun e he => Entry.unbound_eq_self (h e he), List.map_id']

theorem Entry.unbound_seq (freed : List Entry) (e : Entry) : (e.unbound freed).seq = e.seq := by
  unfold Entry.unbound
  split <;> rfl

theorem Entry.unbound_key (freed : List Entry) (e : Entry) :
    (e.unbound freed).station = e.station ∧ (e.unbound freed).code = e.code := by
  unfold Entry.unbound
  split <;> exact ⟨rfl, rfl⟩

theorem Entry.unbound_cons (x : Entry) (freed : List Entry) (e : Entry) :
    (e.unbound [x]).unbound freed = e.unbound (x :: freed) := by
  by_cases hx : e.slot = x.slot <;> by_cases hf : e.slot ∈ freed.map Entry.slot <;>
    simp_all [Entry.unbound]

/-- Freeing an entry's slot takes it from whichever entries hold it (R150). -/
theorem freeSlotOf_store (s : State) (x : Entry) :
    (freeSlotOf s x).store = { s.store with entries := s.store.entries.map (Entry.unbound [x]) } := by
  unfold freeSlotOf
  split
  · next i hi => simp [freeSlot, Entry.unbound, hi]
  · next hx =>
    rw [map_unbound_eq_self fun e _ he => by simpa [hx] using he]

theorem foldl_freeSlotOf_store (freed : List Entry) (s : State) :
    (freed.foldl freeSlotOf s).store = { s.store with entries := s.store.entries.map (Entry.unbound freed) } := by
  induction freed generalizing s with
  | nil => rw [map_unbound_eq_self (by simp), List.foldl_nil]
  | cons x freed ih =>
    rw [List.foldl_cons, ih, freeSlotOf_store, List.map_map]
    simp only [Function.comp_def, Entry.unbound_cons]

/-- The store without the removed entries (R11, R19, R20). -/
theorem removeEntries_store (s : State) (q : Entry → Bool) :
    (removeEntries s q).store = { s.store with
      entries := (s.store.entries.map (Entry.unbound (s.store.entries.filter q))).filter fun e => !q e } := by
  rw [removeEntries, State.modStore_store, foldl_freeSlotOf_store]

/-- The store without the victim (R11). -/
theorem evict_store (s : State) (v : Entry) :
    (evict s v).store = { s.store with
      entries := (s.store.entries.map (Entry.unbound (s.store.entries.filter fun e => e.seq = v.seq))).filter
        fun e => !decide (e.seq = v.seq)
      evictions := sat16 s.store.evictions 1 } := by
  rw [evict, State.modStore_store, removeEntries_store]

/-- An eviction makes room (R11). -/
theorem evict_makes_room {s : State} {v : Entry} (hv : v ∈ s.store.entries) :
    (evict s v).store.entries.length < s.store.entries.length := by
  rw [evict_store]
  refine lt_of_lt_of_eq (List.length_filter_lt_length_iff_exists.2 ?_) (List.length_map _)
  exact ⟨_, List.mem_map_of_mem hv, by simp [Entry.unbound_seq]⟩

theorem evict_evolves (s : State) (v : Entry) : Store.Evolves M G s.store (evict s v).store :=
  (removeEntries_evolves s _).trans (.evicted _)

variable {m : Merge}

theorem createEntry_evolves {s : State} (hm : M m)
    (new : ∀ e ∈ s.store.entries, ¬ (e.station = m.station ∧ e.code = m.code))
    (room : s.store.entries.length < 512) (below : s.store.nextSeq < 4294967295) :
    Store.Evolves M G s.store (createEntry s m).store := by
  rw [createEntry_store]
  exact .created _ m _ _ hm new room below

theorem newKeyMerge_evolves {s : State} (hm : M m)
    (new : ∀ e ∈ s.store.entries, ¬ (e.station = m.station ∧ e.code = m.code))
    (hlen : s.store.entries.length ≤ 512) : Store.Evolves M G s.store (newKeyMerge s m).store := by
  unfold newKeyMerge
  split
  · exact .refused _
  next hseq =>
  have below : s.store.nextSeq < 4294967295 := not_le.1 hseq
  split
  · next room => exact createEntry_evolves hm new room below
  next full =>
  split
  · next hnone => simp [victimOf_eq_none hnone, Config.storeCapacity] at full
  next v hv =>
  split
  · have room : (evict s v).store.entries.length < 512 := (evict_makes_room (victimOf_mem hv)).trans_le hlen
    refine (evict_evolves s v).trans (createEntry_evolves hm ?_ room ?_)
    · rw [evict_store]
      intro e' he'
      obtain ⟨e, he, rfl⟩ := List.mem_map.1 (List.mem_of_mem_filter he')
      rw [(Entry.unbound_key _ e).1, (Entry.unbound_key _ e).2]
      exact new e he
    · rwa [evict_store]
  · exact .refused _

/-- The store as a merge into the entry of its key leaves it (R25). -/
theorem mergeInto_evolves (s : State) (hm : M m) (seq c k : Nat) :
    Store.Evolves M G s.store (s.modEntries (fun x => x.seq = seq) fun x => mergedEntry x m c k).store :=
  modEntries_evolves s _ _ fun _ _ _ => .merged m c k hm

/-- A merge lets the store evolve (R8 to R12). -/
theorem takeMerge_evolves {s : State} (hm : M m) (hlen : s.store.entries.length ≤ 512) :
    Store.Evolves M G s.store (takeMerge s m).store := by
  unfold takeMerge
  split
  · next hnone => exact newKeyMerge_evolves hm (entryOfKey_eq_none.1 hnone) hlen
  · next e _ =>
    dsimp only
    split
    · rw [handOff_store]
      exact mergeInto_evolves s hm ..
    · exact mergeInto_evolves s hm ..

/-! ### Passes, closes and CLEAR -/

theorem clearSeen_evolves (s : State) (st : StationNo) : Store.Evolves M G s.store (clearSeen s st).store :=
  modEntries_evolves s _ _ fun _ _ _ => .unseen

theorem markGone_evolves {s : State} {st : StationNo} (hG : G st) :
    Store.Evolves M G s.store (markGone s st).store := by
  refine modEntries_evolves s _ _ fun e _ hq => ?_
  simp only [Bool.and_eq_true, decide_eq_true_eq, Bool.not_eq_true'] at hq
  obtain ⟨⟨hst, -⟩, hseen⟩ := hq
  exact .gone (hst ▸ hG) hseen

theorem clearStation_evolves (s : State) (st : StationNo) :
    Store.Evolves M G s.store (clearStation s st).store := removeEntries_evolves s _

theorem clearStore_evolves (s : State) : Store.Evolves M G s.store (clearStore s).store :=
  removeEntries_evolves s _

/-- A COMPLETE close marks the entries of its station (R15, R97). -/
theorem closeDialogue_evolves {s : State} {c : ContextNo} {o : Closing}
    (hG : ∀ d, s.context c = some d → o = .complete → G d.station) :
    Store.Evolves M G s.store (closeDialogue s c o).store := by
  by_cases ho : o = .complete
  · subst ho
    unfold closeDialogue
    split
    · exact .refl _
    · next d hd =>
      have hmark : Store.Evolves M G (withdrawQuery s c d).store (markGone (withdrawQuery s c d) d.station).store :=
        markGone_evolves (hG d hd rfl)
      simpa using hmark
  · rw [closeDialogue_store ho]
    exact .refl _

/-! ### The outcome that a close records (R60, R97) -/

theorem joinNormal_station (s : State) (st x : StationNo) :
    (joinNormal s st).station x =
      if x = st then { s.station x with run := .due, urgent := false } else s.station x := by
  rw [joinNormal, State.station_eq (maxRunChecks_survey ..)]
  simp

theorem recordOutcome_lastOutcome (s : State) (d : Dialogue) (o : Closing) :
    ((recordOutcome s d o).station d.station).lastOutcome = some o := by
  unfold recordOutcome
  cases o with
  | suspended => cases s.clock.key <;> simp [joinNormal_station]
  | complete | short | abandoned | cut | portLost => simp

theorem applyStationRow_lastOutcome (s : State) (st x : StationNo) (row : StationRow) :
    ((applyStationRow s st row).station x).lastOutcome = (s.station x).lastOutcome := by
  have hafter : ∀ (y : StationState) keeps, (y.afterRow keeps).lastOutcome = y.lastOutcome := by
    intro y keeps
    unfold StationState.afterRow
    dsimp only
    split <;> rfl
  unfold applyStationRow
  dsimp only
  split
  · rw [State.modStation_station]
    split <;> simp [hafter]
  · rw [State.station_eq (settleLook_survey ..), State.modDue_station, State.modStation_station]
    split <;> simp [hafter]

theorem releasePending_lastOutcome (s : State) (x : StationNo) :
    ((releasePending s).station x).lastOutcome = (s.station x).lastOutcome := by
  unfold releasePending
  (repeat' split)
  · rfl
  · rfl
  · unfold applyPending
    split
    · exact applyStationRow_lastOutcome ..
    · rfl

/-- A close records its outcome for the station of its dialogue. -/
theorem closeDialogue_lastOutcome {s : State} {c : ContextNo} {d : Dialogue} (o : Closing)
    (hd : s.context c = some d) : ((closeDialogue s c o).station d.station).lastOutcome = some o := by
  unfold closeDialogue
  simp only [hd]
  rw [State.station_eq (lookCheck_survey _), releasePending_lastOutcome, State.setContext_station,
    recordOutcome_lastOutcome]

/-! ### Headers and records -/

theorem acceptHeader_evolves {s : State} {c : ContextNo} {d : Dialogue} {n : Nat}
    (hG : ((acceptHeader s c d n).station d.station).lastOutcome = some .complete → G d.station) :
    Store.Evolves M G s.store (acceptHeader s c d n).store := by
  unfold acceptHeader at hG ⊢
  dsimp only at hG ⊢
  split at hG
  · next hn =>
    rw [if_pos hn]
    refine closeDialogue_evolves (s := s.setContext c _) fun d' hd' _ => ?_
    have hset := State.setContext_context s c c (some { d with
      n := some n, resumeN := none, waitTimer := some (s.stationRow d.station).waitTime })
    rw [if_pos rfl] at hset
    cases hset.symm.trans hd'
    have hlast := closeDialogue_lastOutcome .complete hset
    exact hG hlast
  · next hn =>
    rw [if_neg hn]
    exact .refl _

theorem takeHeader_evolves {s : State} {c : ContextNo} {d : Dialogue} {n : Nat}
    (hG : ((takeHeader s c d n).station d.station).lastOutcome = some .complete → G d.station) :
    Store.Evolves M G s.store (takeHeader s c d n).store := by
  unfold takeHeader at hG ⊢
  split
  · next _ hn =>
    split
    · rw [closeDialogue_store (by decide)]
      exact .refl _
    · next hlt =>
      simp only [hn, if_neg hlt] at hG
      exact acceptHeader_evolves hG
  · next hn =>
    split
    · next ho =>
      simp only [hn, ho] at hG
      exact (clearSeen_evolves s d.station).trans (acceptHeader_evolves hG)
    · next ho =>
      split
      · next hr =>
        simp only [hn, ho, if_pos hr] at hG
        exact acceptHeader_evolves hG
      · rw [restartPass, sendQuery_store]
        exact clearSeen_evolves s d.station

theorem handOff_engine_of_readback {s : State} {seq : Nat} (hm : m.source = .readback) :
    (handOff s seq m).engine = s.engine := by
  simp [handOff, hm]

/-- A merge from a readback leaves the contexts alone: it brings no urgency request (R13). -/
theorem takeMerge_engine_of_readback {s : State} (hm : m.source = .readback) :
    (takeMerge s m).engine = s.engine := by
  have hcreate : ∀ u : State, (createEntry u m).engine = u.engine := by
    intro u
    simp [createEntry, handOff_engine_of_readback hm]
  unfold takeMerge newKeyMerge
  dsimp only
  (repeat' split) <;> simp [hcreate, handOff_engine_of_readback hm]

/-- What may set yield-pending flags leaves each context with its station. -/
theorem State.YieldOnly.context_station {s t : State} (h : s.YieldOnly t) {c : ContextNo} {d' : Dialogue}
    (hd' : t.context c = some d') : ∃ d, s.context c = some d ∧ d'.station = d.station := by
  rcases h.2 c with hc | hc <;> rw [hc] at hd'
  · exact ⟨d', hd', rfl⟩
  · obtain ⟨d, hd, rfl⟩ := Option.map_eq_some_iff.1 hd'
    exact ⟨d, hd, rfl⟩

theorem afterAdvance_evolves {s : State} {c : ContextNo}
    (hG : ∀ d, s.context c = some d →
      ((afterAdvance s c).station d.station).lastOutcome = some .complete → G d.station) :
    Store.Evolves M G s.store (afterAdvance s c).store := by
  unfold afterAdvance at hG ⊢
  split
  · exact .refl _
  · next d hd =>
    split
    · next hn =>
      refine closeDialogue_evolves fun d' hd' _ => ?_
      simp only [hd, if_pos hn] at hG
      cases hd.symm.trans hd'
      exact hG d rfl (closeDialogue_lastOutcome .complete hd)
    · split
      · rw [windowBoundary_store]
        exact .refl _
      · exact .refl _

theorem acceptRecord_evolves {s : State} {c : ContextNo} {d : Dialogue} {r : FaultReport}
    (hd : s.context c = some d) (hM : M (r.merge d.station .readback)) (hlen : s.store.entries.length ≤ 512)
    (hG : ((acceptRecord s c d r).station d.station).lastOutcome = some .complete → G d.station) :
    Store.Evolves M G s.store (acceptRecord s c d r).store := by
  unfold acceptRecord at hG ⊢
  dsimp only at hG ⊢
  refine (takeMerge_evolves hM hlen).trans ?_
  set merged := takeMerge s (r.merge d.station .readback) with hmerged
  set advanced := merged.modDialogue c _ with hadvanced
  have hyield : advanced.YieldOnly (preemptionCheck (maxRunCheck advanced c)) :=
    (maxRunCheck_yieldOnly _ _).trans (preemptionCheck_yieldOnly _)
  have hstore : (preemptionCheck (maxRunCheck advanced c)).store = merged.store := by simp [hadvanced]
  rw [← hstore]
  refine afterAdvance_evolves fun d' hd' hlast => ?_
  obtain ⟨d₁, hd₁, hstation⟩ := hyield.context_station hd'
  have hmergedContext : merged.context c = some d :=
    (State.context_eq (takeMerge_engine_of_readback rfl) c).trans hd
  rw [hadvanced, State.modDialogue_context, if_pos rfl, hmergedContext] at hd₁
  cases hd₁
  rw [hstation] at hlast ⊢
  exact hG hlast

theorem takeRecord_evolves {s : State} {c : ContextNo} {d : Dialogue} {index : Nat} {r : FaultReport}
    (hd : s.context c = some d) (hM : M (r.merge d.station .readback)) (hlen : s.store.entries.length ≤ 512)
    (hG : ((takeRecord s c d index r).station d.station).lastOutcome = some .complete → G d.station) :
    Store.Evolves M G s.store (takeRecord s c d index r).store := by
  unfold takeRecord at hG ⊢
  split
  · exact .refl _
  next hge =>
  split
  · next heq =>
    rw [if_neg hge, if_pos heq] at hG
    exact acceptRecord_evolves hd hM hlen hG
  · rw [retryPoint_store]
    exact .refl _

/-! ### Arrivals -/

/-- The merges of the fault reports that the tables' descriptors and default severities give (R87, R112). -/
def Tables.Reads (t : Tables) (m : Merge) : Prop :=
  ∃ d st data r st' src,
    readReport (t.formats.get d) (t.stations.get st).defaultSeverity data = some r ∧ m = r.merge st' src

theorem readReply_record {d : Descriptor} {sev : Nat} {data : List Byte} {index : Nat} {r : FaultReport}
    (h : readReply d sev data = some (.record index r)) : readReport d sev data = some r := by
  unfold readReply at h
  split at h
  · cases h
  · split at h <;> cases h
  · split at h
    · obtain ⟨r', hr', heq⟩ := Option.map_eq_some_iff.1 h
      cases heq
      exact hr'
    · cases h

theorem readAnnouncement_report {d : Descriptor} {sev : Nat} {data : List Byte} {r : FaultReport}
    (h : readAnnouncement d sev data = some r) : readReport d sev data = some r := by
  unfold readAnnouncement at h
  split at h
  · exact h
  · cases h

theorem contextOf_station {s : State} {st : StationNo} {c : ContextNo} (h : s.contextOf st = some c) :
    ∃ d, s.context c = some d ∧ d.station = st := by
  have hc := List.find?_some h
  split at hc
  · next d hd => exact ⟨d, hd, of_decide_eq_true hc⟩
  · cases hc

theorem takeAnnouncement_evolves {s : State} {p : Port} {row : IdentRow} {data : List Byte}
    (hM : ∀ m, s.tables.Reads m → M m) (hlen : s.store.entries.length ≤ 512) :
    Store.Evolves M G s.store (takeAnnouncement s p row data).store := by
  unfold takeAnnouncement
  split
  · next r hr =>
    exact takeMerge_evolves (hM _ ⟨_, _, _, r, _, _, readAnnouncement_report hr, rfl⟩) hlen
  · exact .refl _

theorem takeReply_evolves {s : State} {p : Port} {row : IdentRow} {data : List Byte}
    (hM : ∀ m, s.tables.Reads m → M m) (hlen : s.store.entries.length ≤ 512)
    (hG : (s.station row.station).run = .engaged →
      ((takeReply s p row data).station row.station).lastOutcome = some .complete → G row.station) :
    Store.Evolves M G s.store (takeReply s p row data).store := by
  unfold takeReply at hG ⊢
  split
  next howned =>
    have hrun : (s.station row.station).run = .engaged := by
      simp only [State.replyOwned, Bool.and_eq_true, decide_eq_true_eq] at howned
      exact howned.1
    split
    · exact .refl _
    next rep hrep =>
    split
    · exact .refl _
    next c hc =>
    split
    · exact .refl _
    next d hd =>
    obtain ⟨d', hd', hst⟩ := contextOf_station hc
    cases hd.symm.trans hd'
    simp only [howned, if_true, hrep, hc, hd] at hG
    replace hG := hG hrun
    rw [← hst] at hG
    unfold giveReply at hG ⊢
    split
    · next hp => simp only [hp] at hG; exact takeHeader_evolves hG
    · next i r hp =>
      simp only [hp] at hG
      exact takeRecord_evolves hd (hM _ ⟨_, _, _, r, _, _, readReply_record hrep, rfl⟩) hlen hG
    all_goals exact .refl _
  · exact .refl _

theorem handOn_evolves {s : State} {p : Port} {f : Frame} {row : IdentRow}
    (hM : ∀ m, s.tables.Reads m → M m) (hlen : s.store.entries.length ≤ 512)
    (hG : ∀ st, (s.station st).run = .engaged →
      ((handOn s p f row).station st).lastOutcome = some .complete → G st) :
    Store.Evolves M G s.store (handOn s p f row).store := by
  unfold handOn at hG ⊢
  split
  · exact .refl _
  next hdata =>
  cases hcls : row.cls with
  | announce => exact takeAnnouncement_evolves hM hlen
  | reply =>
    simp only [hcls, if_neg hdata] at hG
    exact takeReply_evolves hM hlen (hG _)
  | pass | key | time | manage => simp [Store.Evolves.refl]

/-- An arrival lets the store evolve (R129). -/
theorem takeArrival_evolves {s : State} {p : Port} {f : Frame}
    (hM : ∀ m, s.tables.Reads m → M m) (hlen : s.store.entries.length ≤ 512)
    (hG : ∀ st, (s.station st).run = .engaged →
      ((takeArrival s p f).station st).lastOutcome = some .complete → G st) :
    Store.Evolves M G s.store (takeArrival s p f).store := by
  unfold takeArrival at hG ⊢
  dsimp only at hG ⊢
  set seen := arrivalLowersRec (arrivalSeen s) p with hseen
  have hstore : seen.store = s.store := by simp [hseen]
  have htables : seen.tables = s.tables := by simp [hseen]
  have hsurvey : seen.survey = s.survey := by simp [hseen]
  split
  · simpa [hstore] using Store.Evolves.refl _
  next row hrow =>
  simp only [hrow] at hG
  set sent := if row.cls = .manage then seen else forwardFrame seen p f row.route with hsent
  have hsentStore : sent.store = s.store := by rw [hsent]; split <;> simp [hstore]
  have hsentTables : sent.tables = s.tables := by rw [hsent]; split <;> simp [htables]
  have hsentSurvey : sent.survey = s.survey := by rw [hsent]; split <;> simp [hsurvey]
  have hhand : (∀ st, (s.station st).run = .engaged →
      ((handOn sent p f row).station st).lastOutcome = some .complete → G st) →
      Store.Evolves M G s.store (handOn sent p f row).store := by
    intro hG
    rw [← hsentStore] at hlen ⊢
    exact handOn_evolves (hsentTables ▸ hM) hlen fun st hrun =>
      hG st (by rwa [State.station_eq hsentSurvey] at hrun)
  split
  · next hsnap =>
    rw [if_pos hsnap] at hG
    refine (hhand fun st hrun hlast => hG st hrun ?_).trans (ringStep_evolves ..)
    rwa [State.station_eq (ringStep_survey ..)]
  · next hsnap =>
    rw [if_neg hsnap] at hG
    exact hhand hG

end Sys2Proof.Machine

/-! PROOFS. What each command does to the history store in force and to the store of the image, and the
statements about every command: O5, O12 and O13. -/

namespace Sys2Proof.Machine

/-- Every next state of an outcome has the property. -/
def Leads (o : Host.Outcome State Fault Refusal) (P : State → Prop) : Prop := ∀ t, o = .next t → P t

@[simp] theorem leads_next {t : State} {P : State → Prop} : Leads (.next t) P ↔ P t :=
  ⟨fun h => h t rfl, fun h _ ht => Host.Outcome.next.inj ht ▸ h⟩

@[simp] theorem leads_refused {r : Refusal} {P : State → Prop} : Leads (.refused r) P :=
  fun _ h => by simp at h

/-! ### The image -/

/-- The store as a save writes it (R173). -/
def Store.saved (st : Store) : Store := { st with entries := st.entries.map Entry.saved }

/-- The store of the image. -/
def State.savedStore (s : State) : Store := s.retention.image.store

theorem State.savedStore_eq {s t : State} (h : t.retention = s.retention) : t.savedStore = s.savedStore := by
  simp [State.savedStore, h]

@[simp] theorem restartSleep_savedStore (s : State) : (restartSleep s).savedStore = s.savedStore := rfl

@[simp] theorem stopSleep_savedStore (s : State) : (stopSleep s).savedStore = s.savedStore := rfl

@[simp] theorem abandonSave_savedStore (s : State) : (abandonSave s).savedStore = s.savedStore := by
  unfold abandonSave
  split <;> rfl

@[simp] theorem arrivalSeen_savedStore (s : State) : (arrivalSeen s).savedStore = s.savedStore := by
  unfold arrivalSeen
  dsimp only
  split <;> simp

@[simp] theorem keyOnEvent_savedStore (s : State) : (keyOnEvent s).savedStore = s.savedStore := by
  rw [keyOnEvent, stopSleep_savedStore, State.savedStore_eq (surveyKeyOn_retention _)]
  rfl

@[simp] theorem keyOffEvent_savedStore (s : State) : (keyOffEvent s).savedStore = s.savedStore := by
  rw [keyOffEvent, restartSleep_savedStore, State.savedStore_eq (surveyKeyOff_retention _)]
  rfl

theorem wakeUp_savedStore (s : State) : (wakeUp s).savedStore = s.savedStore := by
  unfold wakeUp
  dsimp only
  rw [restartSleep_savedStore]
  simp [State.savedStore]

theorem enterSleep_savedStore (s : State) : (enterSleep s).savedStore = s.savedStore := by
  unfold enterSleep
  dsimp only
  simp [State.savedStore]

@[simp] theorem keyOnAtStart_savedStore (s : State) : (keyOnAtStart s).savedStore = s.savedStore := by
  unfold keyOnAtStart
  split <;> simp

@[simp] theorem restartKeyLoss_savedStore (s : State) : (restartKeyLoss s).savedStore = s.savedStore := rfl

@[simp] theorem applyReading_savedStore (s : State) (k : KeyState) :
    (applyReading s k).savedStore = s.savedStore := by
  unfold applyReading
  split <;> simp

@[simp] theorem keyValue_savedStore (s : State) (raw : Nat) (mask on : BitVec 32) :
    (keyValue s raw mask on).savedStore = s.savedStore := by
  unfold keyValue
  split <;> simp

@[simp] theorem takeKey_savedStore (s : State) (p : Port) (row : IdentRow) (data : List Byte) :
    (takeKey s p row data).savedStore = s.savedStore := by
  unfold takeKey
  dsimp only
  split
  · exact keyValue_savedStore ..
  · rfl

@[simp] theorem handOn_savedStore (s : State) (p : Port) (f : Frame) (row : IdentRow) :
    (handOn s p f row).savedStore = s.savedStore := by
  unfold handOn
  split
  · rfl
  · cases row.cls with
    | key => exact takeKey_savedStore ..
    | pass | announce | reply | time | manage => exact State.savedStore_eq (by simp)

@[simp] theorem takeArrival_savedStore (s : State) (p : Port) (f : Frame) :
    (takeArrival s p f).savedStore = s.savedStore := by
  unfold takeArrival
  dsimp only
  have hseen : (arrivalLowersRec (arrivalSeen s) p).savedStore = s.savedStore :=
    (State.savedStore_eq (by simp)).trans (arrivalSeen_savedStore s)
  split
  · exact (State.savedStore_eq (by simp)).trans hseen
  next row _ =>
  have hhand : ∀ u : State, u.retention = (arrivalLowersRec (arrivalSeen s) p).retention →
      (handOn u p f row).savedStore = s.savedStore := fun u hu =>
    ((handOn_savedStore ..).trans (State.savedStore_eq hu)).trans hseen
  split
  · rw [State.savedStore_eq (ringStep_retention ..)]
    exact hhand _ (by split <;> simp)
  · exact hhand _ (by split <;> simp)

/-! ### What a command does to both stores -/

/-- The store in force evolves, with merges that the tables' descriptors read, and the image stands. -/
structure State.Records (G : StationNo → Prop) (s t : State) : Prop where
  store : Store.Evolves s.tables.Reads G s.store t.store
  image : t.savedStore = s.savedStore

/-- The same, or the store as it then stands has been saved (R173). -/
structure State.History (G : StationNo → Prop) (s t : State) : Prop where
  store : Store.Evolves s.tables.Reads G s.store t.store
  image : t.savedStore = s.savedStore ∨ t.savedStore = t.store.saved

variable {G : StationNo → Prop} {s t : State}

theorem State.Records.of_same (hstore : t.store = s.store) (himage : t.savedStore = s.savedStore) :
    s.Records G t := ⟨hstore ▸ .refl _, himage⟩

theorem State.Records.history (h : s.Records G t) : s.History G t := ⟨h.store, .inl h.image⟩

/-- The retention unit's check may save the store as it stands (R172, R173). -/
theorem State.Records.checkSleep (h : s.Records G t) : s.History G (checkSleep t) := by
  refine ⟨by simpa using h.store, ?_⟩
  rcases checkSleep_cases t with ⟨-, hc⟩ | ⟨-, hc⟩ <;> rw [hc]
  · exact .inl h.image
  · exact .inr rfl

/-- A request does to both stores what its effect does. -/
theorem serve_history {k : RequestKind} {effect : State → Port → List Byte → Answer}
    (h : ∀ p data, s.Records G (effect s p data).state) : s.History G (Machine.checkSleep (serve s k effect)) := by
  refine State.Records.checkSleep ?_
  unfold serve
  split
  · next p data _ =>
    dsimp only
    split
    · obtain ⟨hstore, himage⟩ := h p data
      exact ⟨by simpa using hstore, (State.savedStore_eq (by simp)).trans himage⟩
    · exact .of_same rfl rfl
  · exact .of_same rfl rfl
  · exact .of_same rfl rfl

/-- An effect that leaves both stores, behind the check of the data length (R153). -/
theorem needBytes_records {n : Nat} {data : List Byte} {a : Answer} (h : s.Records G a.state) :
    s.Records G (needBytes n s data a).state := by
  unfold needBytes
  split
  · exact .of_same rfl rfl
  · exact h

theorem commitKeySource_savedStore (s : State) (old new : KeySource) :
    (commitKeySource s old new).savedStore = s.savedStore := by
  unfold commitKeySource
  split
  · dsimp only
    split
    · exact keyOnEvent_savedStore _
    · rfl
  all_goals rfl

theorem applyGeneral_savedStore (s : State) (row : GeneralRow) :
    (applyGeneral s row).savedStore = s.savedStore := by
  unfold applyGeneral
  dsimp only
  rw [commitKeySource_savedStore, State.savedStore_eq (commitClockSource_retention ..)]
  rfl

theorem commitRow_records (table row : Nat) : s.Records G (commitRow s table row).state := by
  have happly : ∀ {α : Type} (x : Option α) (f : α → State), (∀ r, s.Records G (f r)) →
      s.Records G (applyDecoded s x f).state := by
    intro α x f hf
    cases x with
    | none => exact .of_same rfl rfl
    | some r => exact hf r
  have hdefer : ∀ pc, s.Records G (applyOrDefer s pc).state := by
    intro pc
    unfold applyOrDefer
    (repeat' split)
    · exact .of_same rfl rfl
    · exact .of_same rfl rfl
    · exact .of_same (by simp [plainAnswer]) (State.savedStore_eq (by simp [plainAnswer]))
  unfold commitRow
  dsimp only
  (repeat' split)
  · exact happly _ _ fun r => .of_same rfl rfl
  · exact .of_same rfl rfl
  · exact hdefer _
  · exact .of_same rfl rfl
  · exact hdefer _
  · exact .of_same rfl rfl
  · exact happly _ _ fun r => .of_same (by simp) (State.savedStore_eq (by simp))
  · exact .of_same rfl rfl
  · exact happly _ _ fun r => .of_same (by simp) (applyGeneral_savedStore ..)
  · exact .of_same rfl rfl
  · exact .of_same rfl rfl

/-- Which entries a command may mark GONE: those of an ENGAGED station whose outcome is then COMPLETE, at an
arrival (R15). -/
def MayMark (i : Instr) (s t : State) (st : StationNo) : Prop :=
  (∃ p f, i = .arrival p f) ∧ (s.station st).run = .engaged ∧ (t.station st).lastOutcome = some .complete

theorem execArrival_history {p : Port} {f : Frame} (hlen : s.store.entries.length ≤ 512) :
    Leads (execArrival p f s) fun t => s.History (MayMark (.arrival p f) s t) t := by
  unfold execArrival
  split
  · split
    · refine leads_next.2 ⟨takeArrival_evolves (fun _ => id) hlen ?_, .inl (takeArrival_savedStore ..)⟩
      exact fun st hrun hlast => ⟨⟨p, f, rfl⟩, hrun, hlast⟩
    · exact leads_next.2 (State.Records.of_same rfl rfl).history
  · exact leads_refused

theorem execCaptureTrigger_history (n : Nat) : Leads (execCaptureTrigger n s) (s.History G) := by
  unfold execCaptureTrigger
  split
  · split
    · exact leads_next.2 (State.Records.of_same rfl rfl).history
    · next tr _ _ =>
      refine leads_next.2 ⟨takeTrigger_evolves (s.modSnapshots _) tr, .inl (State.savedStore_eq ?_)⟩
      simp
  · exact leads_next.2 (State.Records.of_same rfl rfl).history

/-- Only a look of an ENTRIES stream clears changed flags (R166). -/
theorem lookExport_records (none : ∀ st, ¬ G st) : s.Records G (lookExport s) := by
  refine ⟨?_, State.savedStore_eq (by simp)⟩
  unfold lookExport
  (repeat' split)
  · next e _ =>
    unfold exportEntry
    dsimp only
    split
    · refine modEntries_evolves ((queueOutput s _ _).modStreamer _) _ _ fun _ _ _ => .sent none
    · exact .refl _
  · rw [endExport_store]
    exact .refl _
  · exact .refl _
  · exact .refl _

theorem serveClear_records (p : Port) (data : List Byte) : s.Records G (serveClear s p data).state := by
  refine needBytes_records ?_
  split
  · exact ⟨clearStation_evolves s _, State.savedStore_eq (by simp [okAnswer])⟩
  · exact .of_same rfl rfl

theorem serveClearAll_records (p : Port) (data : List Byte) : s.Records G (serveClearAll s p data).state :=
  ⟨clearStore_evolves s, State.savedStore_eq (by simp [serveClearAll, okAnswer])⟩

theorem serveRelease_records (p : Port) (data : List Byte) : s.Records G (serveRelease s p data).state := by
  refine needBytes_records ?_
  split
  · exact ⟨freeSlot_evolves s _, State.savedStore_eq (by simp [okAnswer])⟩
  · exact .of_same rfl rfl

/-- What any command but POWER_ON does to both stores. -/
theorem exec_history {i : Instr} (hi : i ≠ .powerOn) (hlen : s.store.entries.length ≤ 512) :
    Leads (exec i s) fun t => s.History (MayMark i s t) t := by
  have hquiet : ∀ {t : State} {G}, t.store = s.store → t.savedStore = s.savedStore → s.History G t :=
    fun hs hi => (State.Records.of_same hs hi).history
  have hchecked : ∀ {t : State} {G}, t.store = s.store → t.savedStore = s.savedStore →
      s.History G (checkSleep t) := fun hs hi => (State.Records.of_same hs hi).checkSleep
  cases i with
  | powerOn => exact absurd rfl hi
  | arrival p f => exact execArrival_history hlen
  | captureTrigger n => exact fun t ht => execCaptureTrigger_history n t ht
  | exportLook => exact leads_next.2 (lookExport_records fun st h => by simpa using h.1).checkSleep
  | clear => exact leads_next.2 (serve_history serveClear_records)
  | clearAll => exact leads_next.2 (serve_history serveClearAll_records)
  | release => exact leads_next.2 (serve_history serveRelease_records)
  | commit =>
    refine leads_next.2 (serve_history fun p data => needBytes_records ?_)
    split
    · exact .of_same rfl rfl
    · exact commitRow_records ..
  | grant =>
    simp only [exec, execGrant]
    split
    · exact leads_next.2 (hquiet (by simp)
        ((State.savedStore_eq (by simp)).trans (abandonSave_savedStore s)))
    · exact leads_next.2 (hquiet rfl rfl)
  | keyLossTimerExpiry =>
    simp only [exec, execKeyLossTimerExpiry]
    (repeat' split)
    · exact leads_next.2 (hquiet rfl rfl)
    · exact leads_next.2 (hquiet (by simp) (by rw [keyOffEvent_savedStore]; rfl))
    · exact leads_next.2 (hquiet rfl rfl)
  | wake p =>
    simp only [exec, execWake]
    split
    · refine leads_next.2 (hquiet (by simp) ?_)
      rw [keyOnAtStart_savedStore]
      exact wakeUp_savedStore s
    · exact leads_next.2 (hquiet rfl rfl)
  | saveComplete =>
    simp only [exec, execSaveComplete]
    split
    · exact leads_next.2 (hquiet (by simp) (enterSleep_savedStore _))
    · exact leads_next.2 (hquiet rfl rfl)
  | receiveError | transmissionSent | lostArbitration | busIdle | recoveryEvent | transmitChoice | guardTimerExpiry
  | internalTick | holdTimerExpiry | roundTick | roundEnd | postWindowExpiry | queueHeldResponse | queueNotice
  | noticeIntervalExpiry =>
    simp only [exec, execReceiveError, execTransmissionSent, execLostArbitration, execBusIdle, execRecoveryEvent,
      execTransmitChoice, execGuardTimerExpiry, execInternalTick, execHoldTimerExpiry, execRoundTick, execRoundEnd,
      execPostWindowExpiry, execQueueHeldResponse, execQueueNotice, execNoticeIntervalExpiry]
    (repeat' split) <;> exact leads_next.2 (hquiet (by simp) (State.savedStore_eq (by simp)))
  | transmissionFailed | snapshotLook =>
    exact leads_next.2 (hchecked (by simp) (State.savedStore_eq (by simp)))
  | waitTimerExpiry c =>
    simp only [exec, execWaitTimerExpiry]
    split
    · split
      · exact leads_next.2 (hchecked (by simp) (State.savedStore_eq (by simp)))
      · exact leads_next.2 (hquiet rfl rfl)
    · exact leads_next.2 (hquiet rfl rfl)
  | keyOffGraceExpiry =>
    simp only [exec, execKeyOffGraceExpiry]
    split
    · exact leads_next.2 (hchecked (by simp) (State.savedStore_eq (by simp)))
    · exact leads_next.2 (hquiet rfl rfl)
  | sleepDelayExpiry =>
    simp only [exec, execSleepDelayExpiry]
    split
    · exact leads_next.2 (hchecked rfl rfl)
    · exact leads_next.2 (hquiet rfl rfl)
    · exact leads_next.2 (hquiet rfl rfl)
  | unknownRequest | status | portStatus | stationStatus | readRow | readEntry | stage | softReset | surveyStart
  | surveyStop | readNow | setClock | recover | exportStart | exportStop | snapshot | notices =>
    refine leads_next.2 (serve_history fun p data => ?_)
    simp only [serveUnknown, serveStatus, servePortStatus, serveStationStatus, serveReadRow, serveReadEntry, serveStage,
      serveSoftReset, serveSurveyStart, serveSurveyStop, serveReadNow, serveSetClock, serveRecover, serveExport,
      serveExportStop, serveSnapshot, startSnapshot, serveNotices, needBytes, okAnswer, plainAnswer]
    (repeat' split) <;> exact .of_same (by simp) (State.savedStore_eq (by simp))

/-! ### What the tables read is in range -/

theorem ofBigEndian_append (bs : List Byte) (b : Byte) :
    ofBigEndian (bs ++ [b]) = ofBigEndian bs * 256 + b.toNat := by
  simp [ofBigEndian]

theorem ofBigEndian_lt (bs : List Byte) : ofBigEndian bs < 256 ^ bs.length := by
  induction bs using List.reverseRecOn with
  | nil => decide
  | append_singleton bs b ih =>
    have hb := b.isLt
    rw [ofBigEndian_append, List.length_append, List.length_singleton, pow_succ]
    omega

/-- A field's value has the field's width (R24, R102). -/
theorem readField_lt (d : Descriptor) (f : Field) (data : List Byte) : readField d f data < 256 ^ f.width := by
  refine (ofBigEndian_lt _).trans_le (Nat.pow_le_pow_right (by decide) ?_)
  unfold fieldIn
  dsimp only
  split <;> simp

theorem severityOf_le (d : Descriptor) {default : Nat} (h : default ≤ 7) (data : List Byte) :
    severityOf d default data ≤ 7 := by
  unfold severityOf
  split
  · exact h
  · exact Nat.min_le_left ..

/-- The code and count widths and the wrap guard of a descriptor that passes its checks (R103). -/
theorem Descriptor.ok_widths {d : Descriptor} (h : d.ok = true) :
    d.codeField.width ≤ 3 ∧ (d.countField.width ≠ 0 → (d.countField.width = 1 ∨ d.countField.width = 2) ∧
      1 ≤ d.guardG ∧ d.guardG < 256 ^ d.countField.width) := by
  simp only [Descriptor.ok, Field.ok, Field.countOk, Descriptor.guardOk, inRange, Bool.and_eq_true,
    Bool.or_eq_true, decide_eq_true_eq] at h
  obtain ⟨⟨⟨⟨⟨⟨⟨⟨⟨⟨-, hcode⟩, hcount⟩, ⟨⟨hone, hguard⟩, -⟩⟩, -⟩, -⟩, -⟩, -⟩, -⟩, -⟩, -⟩ := h
  exact ⟨by omega, fun hw => ⟨by omega, hone, hguard.resolve_left hw⟩⟩

/-- A merge that tables in order read is in range (R24, R102, R103, R110). -/
theorem Tables.Reads.merge_inRange {t : Tables} (ht : t.Ok) {m : Merge} (h : t.Reads m) : m.InRange := by
  obtain ⟨d, st, data, r, st', src, hread, rfl⟩ := h
  obtain ⟨hstations, hformats, -, -⟩ := ht
  obtain ⟨hcode, hcount⟩ := Descriptor.ok_widths (hformats d)
  have hsev : (t.stations.get st).defaultSeverity ≤ 7 := by
    have := hstations st
    simp only [StationRow.ok, inRange, Bool.and_eq_true, decide_eq_true_eq] at this
    omega
  unfold readReport at hread
  split at hread
  · obtain ⟨status, -, rfl⟩ := Option.map_eq_some_iff.1 hread
    refine ⟨?_, severityOf_le _ hsev _, fun rep hrep => ?_⟩
    · have hlt := (readField_lt (t.formats.get d) (t.formats.get d).codeField data).trans_le
        (Nat.pow_le_pow_right (by decide) hcode)
      exact Nat.le_of_lt_succ hlt
    · simp only [FaultReport.merge, countOf] at hrep
      split at hrep
      · cases hrep
      · next hwidth =>
        cases hrep
        obtain ⟨hw, hg, hlt⟩ := hcount hwidth
        refine ⟨?_, readField_lt .., hg, hlt⟩
        unfold Descriptor.modulus
        rcases hw with hw | hw <;> simp [hw]
  · cases hread

/-! ### Every step keeps the stores in order -/

theorem Entry.saved_inRange {e : Entry} (h : e.InRange) : e.saved.InRange := h

theorem Store.Ok.saved {st : Store} (h : st.Ok) : st.saved.Ok :=
  h.mapped Entry.saved fun _ _ => ⟨rfl, rfl, rfl, Entry.saved_inRange⟩

theorem Store.empty_ok : Store.empty.Ok := by
  simp [Store.Ok, Store.empty]

theorem execPowerOn_storeOk (h : StoreOk s) (ht : execPowerOn s = .next t) : StoreOk t := by
  obtain rfl := Host.Outcome.next.inj ht
  have himage : (keyOnAtStart (powerOnBase s)).savedStore = s.savedStore := keyOnAtStart_savedStore _
  refine ⟨?_, (congrArg Store.Ok himage).mpr h.2⟩
  rw [keyOnAtStart_store]
  unfold powerOnBase
  dsimp only
  split
  · exact Store.Ok.saved h.2
  · exact Store.empty_ok

/-- Every command keeps the store in force and the store of the image in order. -/
theorem exec_storeOk {i : Instr} (htables : s.tables.Ok) (h : StoreOk s) (ht : exec i s = .next t) : StoreOk t := by
  by_cases hi : i = .powerOn
  · subst hi
    exact execPowerOn_storeOk h ht
  · obtain ⟨hstore, himage⟩ := exec_history hi h.1.length_le t ht
    have hok : t.store.Ok := hstore.ok (fun _ => Tables.Reads.merge_inRange htables) h.1
    refine ⟨hok, ?_⟩
    change t.savedStore.Ok
    rcases himage with himage | himage <;> rw [himage]
    · exact h.2
    · exact hok.saved

theorem passMillisecond_storeOk (h : StoreOk s) : StoreOk (passMillisecond s) := by
  have himage : (passMillisecond s).savedStore = s.savedStore := by
    unfold passMillisecond
    dsimp only
    split <;> rfl
  exact ⟨(passMillisecond_store s).symm ▸ h.1, (congrArg Store.Ok himage).mpr h.2⟩

end Sys2Proof.Machine

/-! ### The statements about every command -/

namespace Sys2Proof.Machine

/-- Settles O5: what a command makes of the store is an evolution of it, with merges in range, and a save writes
the store as it then stands. -/
theorem stepKeepsStore : Obligations.StepKeepsStore := by
  intro s t hs ht
  rcases step_cases ht with ⟨c, rest, -, hc⟩ | ⟨-, c, u, hu, hc⟩ | ⟨-, -, rfl⟩
  · exact exec_storeOk (s := { s with pending := rest }) hs.tables.1 hs.store hc
  · rcases (idleChoice_cases hu).2 with rfl | rfl
    · exact exec_storeOk hs.tables.1 hs.store hc
    · exact exec_storeOk (s := s.choose) hs.tables.1 hs.store hc
  · exact passMillisecond_storeOk hs.store

/-- Settles O12: every entry of an evolved store continues one of the store before it, or is new. -/
theorem entriesKeepTheirPast : Obligations.EntriesKeepTheirPast := by
  intro i s t hs hi ht
  have hcont := (exec_history hi hs.length_le t ht).store.continues
  refine ⟨hcont.nextSeq, fun e' he' => (hcont.entries e' he').imp_left ?_⟩
  rintro ⟨e, he, hk⟩
  obtain ⟨-, -, hrange⟩ := hs.entry he
  obtain ⟨-, -, -, hmax, -⟩ := hrange
  have htotal : e.total ≤ e'.total := by simpa [hmax] using hk.total
  exact ⟨e, he, hk.seq, hk.station, hk.code, htotal, hk.peak, hk.firstReport, hk.firstActive, hk.lastActive, hk.last,
    hk.announce, hk.readback⟩

/-- Settles O13: an entry that a command leaves GONE was GONE before, or its station is one that the command may
mark. -/
theorem goneOnlyAtComplete : Obligations.GoneOnlyAtComplete := by
  intro i s t hs hi ht e he e' he' hseq hbefore hafter
  have hcont := (exec_history hi hs.length_le t ht).store.continues
  rcases hcont.entries e' he' with ⟨e₀, he₀, hk⟩ | ⟨hnew, -⟩
  · obtain rfl : e₀ = e := hs.eq_of_seq he₀ he (hk.seq.trans hseq.symm)
    obtain ⟨⟨harrival, hrun, hlast⟩, hseen, hchanged⟩ := hk.gone (fun h => absurd h hbefore) hafter
    rw [← hk.station] at hrun hlast
    exact ⟨harrival, hrun, hlast, hseen, hchanged⟩
  · obtain ⟨-, hlt, -⟩ := hs.entry he
    omega

end Sys2Proof.Machine

/-! PROOFS. Creation, admission, refusal and what the store hands on: O30, O32 and O33. -/

namespace Sys2Proof.Machine

/-! ### A new entry -/

/-- T of a new entry is 1, or the count that came with it when that is above 1 (R27, R31). -/
theorem newTotal_eq (m : Merge) : newTotal m = match m.count with
    | some rep => max 1 rep.r
    | none => 1 := by
  unfold newTotal
  cases m.count with
  | none => rfl
  | some rep =>
    dsimp only
    split <;> omega

/-- The sources of a new entry are the one that the merge names (R36). -/
theorem Sources.add_none (src : MergeSource) : Sources.add { announce := false, readback := false } src =
    { announce := decide (src = .announce), readback := decide (src = .readback) } := by
  cases src <;> rfl

/-- The entry that a merge of a new key creates, field by field (R9, R27, R31). -/
theorem newEntry_eq (seq : Nat) (m : Merge) (c k : Nat) : newEntry seq m c k =
    { seq := seq, station := m.station, code := m.code
      state := match m.state with
        | .active => .active
        | .pending => .pending
        | .stored => .stored
      peak := m.severity
      total := match m.count with
        | some rep => max 1 rep.r
        | none => 1
      last := m.count.map fun rep => { l := rep.r, m := rep.m, g := rep.g }
      firstReport := c, lastReport := c
      firstActive := if m.state = .active then some { c := c, k := k } else none
      lastActive := if m.state = .active then some { c := c, k := k } else none
      sources := { announce := decide (m.source = .announce), readback := decide (m.source = .readback) }
      seen := true, changed := true, slot := none, missed := false } := by
  rw [newEntry, newTotal_eq, Sources.add_none]
  rfl

theorem Merge.rank_eq (m : Merge) : m.rank = m.severity + match m.state with
    | .active => 24
    | .pending => 16
    | .stored => 8 := by
  unfold Merge.rank rankOf
  cases m.state <;> simp [ReportedState.toEntry, EntryState.tier] <;> omega

/-- The state with a merge's entry in place and counted by the notice unit, before it is handed on (R9, R170). -/
def State.withNew (s : State) (m : Merge) : State :=
  { s with
    store := { s.store with
      entries := s.store.entries ++ [newEntry s.store.nextSeq m s.clock.c s.clock.k]
      nextSeq := s.store.nextSeq + 1 }
    notice := { s.notice with count := min 255 (s.notice.count + 1), latest := some s.store.nextSeq } }

theorem createEntry_eq (s : State) (m : Merge) : createEntry s m = handOff (s.withNew m) s.store.nextSeq m := rfl

variable {s : State} {m : Merge}

/-- A merge whose key is new is taken as a new-key merge (R8, R9). -/
theorem takeMerge_of_new (hnew : ∀ e ∈ s.store.entries, e.station ≠ m.station ∨ e.code ≠ m.code) :
    takeMerge s m = newKeyMerge s m := by
  have hnone : s.entryOfKey m.station m.code = none :=
    entryOfKey_eq_none.2 fun e he h => (hnew e he).elim (· h.1) (· h.2)
  simp [takeMerge, hnone]

/-! ### Removal of entries from a store in order -/

variable {q : Entry → Bool} {v : Entry}

/-- Each slot has one entry (R144). -/
theorem SlotsOk.eq_of_slot (hslots : SlotsOk s) (hok : s.store.Ok) {e e' : Entry} (he : e ∈ s.store.entries)
    (he' : e' ∈ s.store.entries) {i : SlotNo} (hi : e.slot = some i) (hi' : e'.slot = some i) : e = e' := by
  obtain ⟨-, howned, -⟩ := hslots
  obtain ⟨-, hown⟩ := howned e he i hi
  obtain ⟨-, hown'⟩ := howned e' he' i hi'
  exact hok.eq_of_seq he he' (Option.some.inj (hown.symm.trans hown'))

/-- The entries that stay keep their slots: each slot that goes has no other entry (R144, R150). -/
theorem removeEntries_entries (hslots : SlotsOk s) (hok : s.store.Ok)
    (hq : ∀ e : Entry, q { e with slot := none } = q e) :
    (removeEntries s q).store = { s.store with entries := s.store.entries.filter fun e => !q e } := by
  have hunbound : ∀ freed (e : Entry), q (e.unbound freed) = q e := by
    intro freed e
    unfold Entry.unbound
    split
    · exact hq e
    · rfl
  rw [removeEntries_store, List.filter_map]
  simp only [Function.comp_def, hunbound]
  rw [map_unbound_eq_self fun e he hm => ?_]
  obtain ⟨x, hx, hslot⟩ := List.mem_map.1 hm
  obtain ⟨hx, hqx⟩ := List.mem_filter.1 hx
  obtain ⟨he, hqe⟩ := List.mem_filter.1 he
  by_contra hsome
  obtain ⟨i, hi⟩ := Option.ne_none_iff_exists'.1 hsome
  cases hslots.eq_of_slot hok he hx hi (hslot.trans hi)
  simp [hqx] at hqe

/-- The slots of the removed entries are freed, the others stand (R150). -/
theorem foldl_freeSlotOf_slot (freed : List Entry) (s : State) (i : SlotNo) :
    (freed.foldl freeSlotOf s).slot i = if some i ∈ freed.map Entry.slot then Slot.freed else s.slot i := by
  induction freed generalizing s with
  | nil => simp
  | cons x freed ih =>
    have hone : (freeSlotOf s x).slot i = if x.slot = some i then Slot.freed else s.slot i := by
      unfold freeSlotOf
      cases x.slot with
      | none => simp
      | some j => simp [freeSlot, eq_comm]
    rw [List.foldl_cons, ih, hone, List.map_cons]
    simp only [List.mem_cons, eq_comm (a := some i)]
    by_cases hf : some i ∈ freed.map Entry.slot <;> simp only [hf, or_true, or_false, if_true, if_false]

theorem removeEntries_slot (s : State) (q : Entry → Bool) (i : SlotNo) :
    (removeEntries s q).slot i =
      if some i ∈ (s.store.entries.filter q).map Entry.slot then Slot.freed else s.slot i :=
  foldl_freeSlotOf_slot ..

/-- What a freed slot's stream is told (R169). -/
theorem Streamer.loseSlot_eq (x : Streamer) (i : SlotNo) : x.loseSlot i =
    { x with slotLost := x.slotLost || decide (x.state ≠ .idle ∧ x.kind = .snapshot ∧ x.slot = i) } := by
  unfold Streamer.loseSlot
  split
  · next h => simp [h]
  · next h => simp [h]

/-- A freed slot leaves the rings, the triggers, and all of the streamer but its note of the loss. -/
theorem freeSlotOf_snapshots (s : State) (e : Entry) :
    (freeSlotOf s e).snapshots.rings = s.snapshots.rings ∧
      (freeSlotOf s e).snapshots.triggers = s.snapshots.triggers ∧
      (freeSlotOf s e).streamer = { s.streamer with slotLost := (freeSlotOf s e).streamer.slotLost } := by
  unfold freeSlotOf
  split
  · exact ⟨rfl, rfl, by simp [freeSlot, Streamer.loseSlot_eq]⟩
  · exact ⟨rfl, rfl, rfl⟩

theorem removeEntries_snapshots (s : State) (q : Entry → Bool) :
    (removeEntries s q).snapshots.rings = s.snapshots.rings ∧
      (removeEntries s q).snapshots.triggers = s.snapshots.triggers ∧
      (removeEntries s q).streamer = { s.streamer with slotLost := (removeEntries s q).streamer.slotLost } := by
  unfold removeEntries
  generalize s.store.entries.filter q = freed
  simp only [State.modStore_snapshots, State.modStore_streamer]
  induction freed generalizing s with
  | nil => exact ⟨rfl, rfl, rfl⟩
  | cons x freed ih =>
    obtain ⟨hrings, htriggers, hstreamer⟩ := ih (freeSlotOf s x)
    obtain ⟨hrings', htriggers', hstreamer'⟩ := freeSlotOf_snapshots s x
    refine ⟨hrings.trans hrings', htriggers.trans htriggers', ?_⟩
    rw [List.foldl_cons, hstreamer, hstreamer']

/-! ### Eviction -/

/-- The state with the slot of the victim freed and the stream told (R11, R150, R169). -/
def State.withoutSlotOf (s : State) (v : Entry) : State :=
  match v.slot with
  | some i => { s.modSlot i fun _ => Slot.freed with
      streamer := { s.streamer with
        slotLost := s.streamer.slotLost || decide (s.streamer.state ≠ .idle ∧
          s.streamer.kind = .snapshot ∧ s.streamer.slot = i) } }
  | none => s

theorem filter_seq_eq_singleton (hok : s.store.Ok) (hv : v ∈ s.store.entries) :
    (s.store.entries.filter fun e => e.seq = v.seq) = [v] := by
  have hnodup : s.store.entries.Nodup := hok.seqs_nodup.of_map
  refine List.perm_singleton.1 ((List.perm_ext_iff_of_nodup (hnodup.filter _) (List.nodup_singleton v)).2 fun e => ?_)
  rw [List.mem_filter, List.mem_singleton, decide_eq_true_eq]
  exact ⟨fun ⟨he, hseq⟩ => hok.eq_of_seq he hv hseq, by rintro rfl; exact ⟨hv, rfl⟩⟩

/-- An eviction takes the victim and its slot (R11). -/
theorem evict_eq (hslots : SlotsOk s) (hok : s.store.Ok) (hv : v ∈ s.store.entries) :
    evict s v = { s.withoutSlotOf v with
      store := { s.store with
        entries := s.store.entries.filter fun e => e.seq ≠ v.seq
        evictions := sat16 s.store.evictions 1 } } := by
  have hstore := removeEntries_entries (q := fun e => e.seq = v.seq) hslots hok fun _ => rfl
  have hrest : removeEntries s (fun e => e.seq = v.seq) =
      { s.withoutSlotOf v with store := (removeEntries s fun e => e.seq = v.seq).store } := by
    unfold removeEntries State.withoutSlotOf
    rw [filter_seq_eq_singleton hok hv, List.foldl_cons, List.foldl_nil, freeSlotOf]
    cases v.slot with
    | none => rfl
    | some i => simp only [freeSlot, ← Streamer.loseSlot_eq]; rfl
  rw [evict, hrest, hstore]
  simp [State.modStore]

/-- What freeing the victim's slot leaves. -/
theorem State.withoutSlotOf_frame (s : State) (v : Entry) :
    (s.withoutSlotOf v).tables = s.tables ∧ (s.withoutSlotOf v).clock = s.clock ∧
      (s.withoutSlotOf v).ports = s.ports ∧ (s.withoutSlotOf v).management = s.management ∧
      (s.withoutSlotOf v).notice = s.notice ∧
      (s.withoutSlotOf v).snapshots.triggers = s.snapshots.triggers := by
  unfold State.withoutSlotOf
  split <;> simp

/-- The victim's slot is freed and no other (R150). -/
theorem State.withoutSlotOf_slot (s : State) (v : Entry) (i : SlotNo) :
    (s.withoutSlotOf v).slot i = if v.slot = some i then Slot.freed else s.slot i := by
  unfold State.withoutSlotOf
  split
  · next j hj =>
    refine (State.modSlot_slot s j i fun _ => Slot.freed).trans ?_
    simp [hj, eq_comm]
  · next hv => simp [hv]

/-- The state in which the store, full before, holds the merge's entry in the victim's place (R9, R11, R170). -/
def State.admitted (s : State) (v : Entry) (m : Merge) : State :=
  { s.withoutSlotOf v with
    store := { s.store with
      entries := (s.store.entries.filter fun e => e.seq ≠ v.seq) ++
        [newEntry s.store.nextSeq m s.clock.c s.clock.k]
      nextSeq := s.store.nextSeq + 1, evictions := min 65535 (s.store.evictions + 1) }
    notice := { s.notice with count := min 255 (s.notice.count + 1), latest := some s.store.nextSeq } }

/-- A candidate that is admitted takes the victim's place and is handed on (R9 to R13). -/
theorem createEntry_evict (hslots : SlotsOk s) (hok : s.store.Ok) (hv : v ∈ s.store.entries) (m : Merge) :
    createEntry (evict s v) m = handOff (s.admitted v m) s.store.nextSeq m := by
  obtain ⟨-, hclock, -, -, hnotice, -⟩ := s.withoutSlotOf_frame v
  rw [createEntry_eq, evict_eq hslots hok hv]
  unfold State.withNew State.admitted
  generalize s.withoutSlotOf v = u at hclock hnotice
  cases u
  cases hclock
  cases hnotice
  rfl

/-- The store stays full: the victim makes room for one entry (R11). -/
theorem admitted_length (hok : s.store.Ok) (hv : v ∈ s.store.entries) (m : Merge) :
    (s.admitted v m).store.entries.length = s.store.entries.length := by
  have hlen := List.length_eq_length_filter_add (l := s.store.entries) fun e => decide (e.seq = v.seq)
  rw [filter_seq_eq_singleton hok hv, List.length_singleton] at hlen
  simp [State.admitted, hlen, Nat.add_comm]

/-! ### The hand-off -/

/-- States with the same components are the same. -/
theorem State.eq_of_components {s t : State} (hpending : t.pending = s.pending) (htables : t.tables = s.tables)
    (hstore : t.store = s.store) (hclock : t.clock = s.clock) (hsurvey : t.survey = s.survey)
    (hengine : t.engine = s.engine) (hports : t.ports = s.ports) (hsnapshots : t.snapshots = s.snapshots)
    (hmanagement : t.management = s.management) (hstreamer : t.streamer = s.streamer)
    (hnotice : t.notice = s.notice) (hretention : t.retention = s.retention)
    (hchoices : t.choices = s.choices) : t = s := by
  cases s
  cases t
  simp_all

/-- The hand-off puts one capture trigger behind the others (R13). -/
theorem handOff_snapshots (s : State) (seq : Nat) (m : Merge) :
    (handOff s seq m).snapshots =
      { s.snapshots with triggers := s.snapshots.triggers ++ [{ seq := seq, station := m.station }] } := by
  unfold handOff
  dsimp only
  split <;> simp

theorem handOff_slot (s : State) (seq : Nat) (m : Merge) (i : SlotNo) : (handOff s seq m).slot i = s.slot i := by
  simp [State.slot, handOff_snapshots]

/-- Nothing but the snapshot unit, the survey and the contexts hears of a hand-off. -/
theorem handOff_eq (s : State) (seq : Nat) (m : Merge) :
    handOff s seq m = { s with
      snapshots := (handOff s seq m).snapshots
      survey := (handOff s seq m).survey
      engine := (handOff s seq m).engine } := by
  obtain ⟨hpending, htables, hstore, hclock, hports, hmanagement, hstreamer, hnotice, hretention, hchoices⟩ :=
    handOff_frame s seq m
  exact State.eq_of_components hpending htables hstore hclock rfl rfl hports rfl hmanagement hstreamer hnotice
    hretention hchoices

theorem State.modDue_congr {s : State} {p : Port} {f g : DueQueue → DueQueue} (h : f (s.due p) = g (s.due p)) :
    s.modDue p f = s.modDue p g := by
  unfold State.modDue modifyAt
  exact congrArg (fun q => { s with survey := { s.survey with due := s.survey.due.set p.val q p.isLt } }) h

theorem State.modStation_congr {s : State} {st : StationNo} {f g : StationState → StationState}
    (h : f (s.station st) = g (s.station st)) : s.modStation st f = s.modStation st g := by
  unfold State.modStation modifyAt
  exact congrArg (fun x => { s with survey := { s.survey with stations := s.survey.stations.set st.val x st.isLt } }) h

variable {st : StationNo}

/-- A station that is urgent already, or ENGAGED, is not moved by urgency (R67). -/
theorem makeUrgent_of_settled
    (h : (s.station st).run = .engaged ∨ (s.station st).run = .due ∧ (s.station st).urgent = true) :
    makeUrgent s st = s := by
  unfold makeUrgent
  rcases h with h | ⟨h, hu⟩ <;> simp [*]

/-- An IDLE station joins the urgent group; the checks that follow set yield-pending flags only (R67, R95). -/
theorem makeUrgent_of_idle (h : (s.station st).run = .idle) :
    ((s.modStation st fun x => { x with run := .due, urgent := true }).modDue (s.stationRow st).homePort
      fun q => { q with urgent := q.urgent ++ [st] }).YieldOnly (makeUrgent s st) := by
  simp only [makeUrgent, h]
  exact (maxRunChecks_yieldOnly _ _).trans (lookCheck_yieldOnly _)

/-- A normal DUE station moves to the urgent group; the check that follows sets yield-pending flags only (R67,
R95). -/
theorem makeUrgent_of_normal (h : (s.station st).run = .due) (hu : (s.station st).urgent = false) :
    (moveUrgent s st).YieldOnly (makeUrgent s st) := by
  simp only [makeUrgent, h, hu]
  exact lookCheck_yieldOnly _

/-- What urgency makes of a station that is neither ENGAGED nor urgent, and of its due queue (R67). -/
theorem makeUrgent_moves (hdue : DueOk s) (hrun : (s.station st).run ≠ .engaged)
    (hurgent : (s.station st).urgent = false) :
    ((s.modStation st fun x => { x with run := .due, urgent := true }).modDue (s.stationRow st).homePort
      fun q => { urgent := q.urgent ++ [st], normal := q.normal.filter (fun x => x ≠ st) }).YieldOnly
        (makeUrgent s st) := by
  obtain ⟨hmem, -⟩ := hdue.1 st
  cases h : (s.station st).run with
  | engaged => exact absurd h hrun
  | idle =>
    have hnormal : (s.due (s.stationRow st).homePort).normal.filter (fun x => x ≠ st) =
        (s.due (s.stationRow st).homePort).normal := by
      refine List.filter_eq_self.2 fun x hx => decide_eq_true ?_
      rintro rfl
      simpa [h] using hmem.2 (.inr hx)
    rw [State.modDue_congr (g := fun q => { q with urgent := q.urgent ++ [st] })
      (congrArg (DueQueue.mk _) hnormal)]
    exact makeUrgent_of_idle h
  | due =>
    rw [State.modStation_congr (g := fun x => { x with urgent := true }) (by rw [← h])]
    exact makeUrgent_of_normal h hurgent

/-- The state with a trigger handed on, before an announcement's urgency request (R13). -/
def State.withTrigger (s : State) (seq : Nat) (m : Merge) : State :=
  s.modSnapshots fun u => { u with triggers := u.triggers ++ [{ seq := seq, station := m.station }] }

theorem handOff_of_readback (s : State) (seq : Nat) (h : m.source = .readback) :
    handOff s seq m = s.withTrigger seq m := by
  simp only [handOff, h]
  rfl

theorem handOff_of_announce (s : State) (seq : Nat) (h : m.source = .announce) :
    handOff s seq m = urgencyRequest (s.withTrigger seq m) m.station := by
  simp only [handOff, h]
  rfl

/-- A hand-off on which the survey does not act (R67). -/
theorem handOff_unheard (hdue : DueOk s) (seq : Nat)
    (h : m.source = .readback ∨ (s.stationRow m.station).enable = false ∨
      (s.stationRow m.station).announceTriggers = false ∨ s.clock.key = .off ∨
      (s.station m.station).run = .engaged ∨ (s.station m.station).urgent = true) :
    handOff s seq m = s.withTrigger seq m := by
  obtain ⟨hmem, hurgent⟩ := hdue.1 m.station
  cases hsrc : m.source with
  | readback => exact handOff_of_readback s seq hsrc
  | announce =>
    rw [handOff_of_announce s seq hsrc, urgencyRequest]
    split
    · next hacts =>
      obtain ⟨henable, htriggers, hkey⟩ := hacts
      refine makeUrgent_of_settled (s := s.withTrigger seq m) ?_
      rcases h with h | h | h | h | h | h
      · cases hsrc.symm.trans h
      · cases henable.symm.trans h
      · cases htriggers.symm.trans h
      · cases hkey.symm.trans h
      · exact .inl h
      · exact .inr ⟨hmem.2 (.inl (hurgent.1 h)), h⟩
    · rfl

end Sys2Proof.Machine

/-! ### The statements about merges -/

namespace Sys2Proof.Machine

/-- Settles O30: with room a new key is created, and at the last sequence number it is refused. -/
theorem newKeyCreatesEntry : Obligations.NewKeyCreatesEntry := by
  intro s m hnew
  rw [takeMerge_of_new hnew]
  refine ⟨fun below room => ?_, fun last => ?_⟩
  · have hcreate : newKeyMerge s m = createEntry s m := by
      simp [newKeyMerge, Config.lastSequence, Config.storeCapacity, not_le.2 below, room]
    rw [hcreate, createEntry_eq, State.withNew, newEntry_eq] <;> rfl
  · have hrefuse : newKeyMerge s m = refuseMerge s := by simp [newKeyMerge, Config.lastSequence, last]
    rw [hrefuse]
    rfl

/-- Settles O32: with the store full a new key meets the admission test, and an admitted one takes the victim's
place. -/
theorem fullStoreAdmitsOrRefuses : Obligations.FullStoreAdmitsOrRefuses := by
  intro s m v hs hnew hseq hfull hvictim
  have hv : v ∈ s.store.entries := victimOf_mem hvictim
  have htest : takeMerge s m = if v.rank ≤ m.rank then createEntry (evict s v) m else refuseMerge s := by
    simp [takeMerge_of_new hnew, newKeyMerge, Config.lastSequence, Config.storeCapacity, hseq, hfull, hvictim]
  rw [Merge.rank_eq] at htest
  refine ⟨fun hlow => ?_, fun hhigh => ?_⟩
  · rw [htest]
    exact if_neg (not_le.2 hlow)
  · have hadmitted : takeMerge s m = handOff (s.admitted v m) s.store.nextSeq m :=
      htest.trans ((if_pos hhigh).trans (createEntry_evict hs.slots hs.store.1 hv m))
    obtain ⟨htables, hclock, hports, hmanagement, hnotice, htriggers⟩ := s.withoutSlotOf_frame v
    obtain ⟨-, htables', hstore', hclock', hports', hmanagement', -, hnotice', -, -⟩ :=
      handOff_frame (s.admitted v m) s.store.nextSeq m
    dsimp only
    rw [hadmitted]
    refine ⟨?_, hstore'.trans ?_, ?_, fun i hi => ?_, fun i hi => ?_, ?_, ?_, hclock'.trans hclock,
      hports'.trans hports, htables'.trans htables, hmanagement'.trans hmanagement⟩
    · rw [State.admitted, newEntry_eq] <;> rfl
    · rw [State.admitted, newEntry_eq] <;> rfl
    · rw [hstore', admitted_length hs.store.1 hv, hfull]
    · rw [handOff_slot]
      exact (s.withoutSlotOf_slot v i).trans (if_pos hi)
    · rw [handOff_slot]
      exact (s.withoutSlotOf_slot v i).trans (if_neg hi)
    · rw [handOff_snapshots]
      exact congrArg (· ++ _) htriggers
    · rw [hnotice']
      rfl

/-- Settles O33: a hand-off leaves a capture trigger, and an announcement's urgency request acts by the station's
run-state. -/
theorem handOffTriggersAndUrgency : Obligations.HandOffTriggersAndUrgency := by
  intro s seq m hs
  dsimp only
  refine ⟨handOff_eq s seq m, handOff_snapshots s seq m, fun hnone => ?_,
    fun hsrc henable htriggers hkey hrun hu => ?_⟩
  · rw [handOff_unheard hs.due seq hnone]
    exact ⟨rfl, rfl⟩
  · have hacts : handOff s seq m = makeUrgent (s.withTrigger seq m) m.station := by
      rw [handOff_of_announce s seq hsrc, urgencyRequest]
      exact if_pos ⟨henable, htriggers, hkey⟩
    have hyield := makeUrgent_moves (s := s.withTrigger seq m) hs.due hrun hu
    rw [← hacts] at hyield
    obtain ⟨-, -, -, -, hsurvey, -⟩ := hyield.fields
    refine ⟨?_, ?_, fun x hx => ?_, fun p hp => ?_, hyield.2⟩
    · rw [State.station_eq hsurvey, State.modDue_station, State.modStation_station]
      exact if_pos rfl
    · rw [State.due_eq hsurvey, State.modDue_due]
      exact if_pos rfl
    · rw [State.station_eq hsurvey, State.modDue_station, State.modStation_station]
      exact if_neg hx
    · rw [State.due_eq hsurvey, State.modDue_due]
      exact if_neg hp

end Sys2Proof.Machine

/-! PROOFS. The close of a dialogue: O39. -/

namespace Sys2Proof.Machine

variable {s : State} {c : ContextNo} {d : Dialogue} {o : Closing}

/-! ### The outcome is recorded -/

theorem Dialogue.resumePoint_or (d : Dialogue) (r : Option ResumePoint) : d.resumePoint.or r = match d.n with
    | some n => some { next := d.expected, n := n }
    | none => r := by
  unfold Dialogue.resumePoint
  cases d.n <;> rfl

/-- What Table 4.4 makes of the station of a closed dialogue (R60). -/
theorem recordOutcome_station (s : State) (d : Dialogue) (o : Closing) :
    (recordOutcome s d o).station d.station = { s.station d.station with
      lastOutcome := some o, urgent := false
      run := if o = .suspended ∧ s.clock.key = .on then .due else .idle
      resume := match o with
        | .complete | .short | .abandoned => none
        | .suspended | .cut | .portLost => d.resumePoint.or (s.station d.station).resume
      failures := match o with
        | .complete | .short => 0
        | .abandoned => min 15 ((s.station d.station).failures + 1)
        | .suspended | .cut | .portLost => (s.station d.station).failures
      lastComplete := if o = .complete then some s.clock.c else (s.station d.station).lastComplete } := by
  unfold recordOutcome
  cases o with
  | suspended => cases hkey : s.clock.key <;> simp [joinNormal_station]
  | complete | short | abandoned | cut | portLost => simp [satAdd]

theorem recordOutcome_station_of_ne {x : StationNo} (hx : x ≠ d.station) :
    (recordOutcome s d o).station x = s.station x := by
  unfold recordOutcome
  cases o with
  | suspended => cases hkey : s.clock.key <;> simp [joinNormal_station, hx]
  | complete | short | abandoned | cut | portLost => simp [hx]

theorem joinNormal_due (s : State) (st : StationNo) (p : Port) :
    (joinNormal s st).due p = if p = (s.stationRow st).homePort then
      { s.due p with normal := (s.due p).normal ++ [st] } else s.due p := by
  rw [joinNormal, State.due_eq (maxRunChecks_survey ..)]
  simp

/-- Only a SUSPENDED station rejoins its queue, and only with the key ON (R60). -/
theorem recordOutcome_due (s : State) (d : Dialogue) (o : Closing) (p : Port) :
    (recordOutcome s d o).due p = if (o = .suspended ∧ s.clock.key = .on) ∧ p = s.dialoguePort d then
      { s.due p with normal := (s.due p).normal ++ [d.station] } else s.due p := by
  unfold recordOutcome
  cases o with
  | suspended =>
    by_cases hp : p = (s.stationRow d.station).homePort <;> cases hkey : s.clock.key <;>
      simp [joinNormal_due, State.dialoguePort, hp]
  | complete | short | abandoned | cut | portLost => simp

/-- Recording an outcome may set yield-pending flags, by the checks that a join brings (R94). -/
theorem recordOutcome_context (s : State) (d : Dialogue) (o : Closing) (c : ContextNo) :
    (recordOutcome s d o).context c = s.context c ∨
      (recordOutcome s d o).context c = (s.context c).map Dialogue.yielding := by
  unfold recordOutcome
  cases o with
  | suspended =>
    cases s.clock.key with
    | on => exact (maxRunChecks_yieldOnly _ _).2 c
    | off => exact .inl rfl
  | complete | short | abandoned | cut | portLost => exact .inl rfl

/-! ### The close -/

/-- The state in which a close records its outcome: the query withdrawn and, on COMPLETE, the unseen entries
GONE (R97). -/
def State.closing (s : State) (c : ContextNo) (d : Dialogue) (o : Closing) : State :=
  if o = .complete then markGone (withdrawQuery s c d) d.station else withdrawQuery s c d

theorem State.closing_frame (s : State) (c : ContextNo) (d : Dialogue) (o : Closing) :
    (s.closing c d o).tables = s.tables ∧ (s.closing c d o).clock = s.clock ∧
    (s.closing c d o).survey = s.survey ∧ (s.closing c d o).engine = s.engine ∧
    (s.closing c d o).snapshots = s.snapshots ∧ (s.closing c d o).management = s.management ∧
    (s.closing c d o).streamer = s.streamer ∧ (s.closing c d o).notice = s.notice ∧
    (s.closing c d o).retention = s.retention ∧ (s.closing c d o).ports = (withdrawQuery s c d).ports := by
  unfold State.closing
  split <;> simp

/-- GONE marking happens at COMPLETE and at no other outcome (R15). -/
theorem State.closing_store (s : State) (c : ContextNo) (d : Dialogue) (o : Closing) :
    (s.closing c d o).store = { s.store with entries := s.store.entries.map fun e =>
      if o = .complete ∧ e.station = d.station ∧ e.state ≠ .gone ∧ e.seen = false then
        { e with state := .gone, changed := true } else e } := by
  unfold State.closing
  split
  · next ho => simp [markGone, ho, and_assoc]
  · next ho => simp [ho]

/-- Without a pending commit, a close records the outcome, frees the context and ends with a look (R97). -/
theorem closeDialogue_of_bound (hd : s.context c = some d) (hp : s.management.pendingCommit = none) :
    closeDialogue s c o = lookCheck ((recordOutcome (s.closing c d o) d o).setContext c none) := by
  have hnone : ((recordOutcome (s.closing c d o) d o).setContext c none).management.pendingCommit = none := by
    obtain ⟨-, -, -, -, -, hmanagement, -⟩ := s.closing_frame c d o
    rw [State.setContext_management, recordOutcome_management, hmanagement, hp]
  simp only [closeDialogue, hd]
  change lookCheck (releasePending ((recordOutcome (s.closing c d o) d o).setContext c none)) = _
  simp only [releasePending, hnone]

/-- Every query of a context in a harvest output is that of its dialogue, so all of them are withdrawn (R81). -/
theorem withdrawQuery_port (hharvest : HarvestOk s) (hd : s.context c = some d) (p : Port) :
    (withdrawQuery s c d).port p = { s.port p with
      harvest := (s.port p).harvest.filter fun q => q.context ≠ c } := by
  have hlive : ∀ q ∈ (s.port p).harvest, q.context = c → q.grantTag = d.grantTag ∧ s.dialoguePort d = p := by
    rintro q hq rfl
    obtain ⟨-, hlive, -⟩ := hharvest.1 p
    obtain ⟨d', hd', -, htag, hport⟩ := hlive q hq
    cases hd.symm.trans hd'
    exact ⟨htag.symm, hport⟩
  rw [withdrawQuery, State.modPort_port]
  split
  · refine congrArg (fun h => { s.port p with harvest := h }) (List.filter_congr fun q hq => ?_)
    by_cases hc : q.context = c <;> simp [hc, hlive q hq]
  · next hp =>
    have hall : (s.port p).harvest.filter (fun q => q.context ≠ c) = (s.port p).harvest :=
      List.filter_eq_self.2 fun q hq => decide_eq_true fun hc => hp (hlive q hq hc).2.symm
    rw [hall]

end Sys2Proof.Machine

/-! ### The statement about closes -/

namespace Sys2Proof.Machine

/-- Settles O39: a close records its outcome as Table 4.4 gives and frees the context. -/
theorem closeRecordsTheOutcome : Obligations.CloseRecordsTheOutcome := by
  intro s c o hs
  refine ⟨fun hfree => by simp [closeDialogue, hfree], fun d hd hp => ?_⟩
  obtain ⟨htables, hclock, hsurvey, hengine, hsnapshots, hmanagement, hstreamer, hnotice, hretention, hports⟩ :=
    s.closing_frame c d o
  obtain ⟨-, rtables, rstore, rclock, rports, rsnapshots, rmanagement, rstreamer, rnotice, rretention, -⟩ :=
    recordOutcome_frame (s.closing c d o) d o
  dsimp only
  rw [closeDialogue_of_bound hd hp]
  set recorded := recordOutcome (s.closing c d o) d o with hrecorded
  obtain ⟨-, ltables, lstore, lclock, lsurvey, lports, lsnapshots, lmanagement, lstreamer, lnotice, lretention,
    -⟩ := lookCheck_frame (recorded.setContext c none)
  have hlook := (lookCheck_yieldOnly (recorded.setContext c none)).2
  refine ⟨?_, fun c' hc' => ?_, ?_, fun st' hst' => ?_, fun p => ?_, ?_, fun p => ?_, ?_, ?_, ?_, ?_, ?_, ?_, ?_⟩
  · have hset : (recorded.setContext c none).context c = none := by simp
    rcases hlook c with h | h <;> simp [h, hset]
  · have hset : (recorded.setContext c none).context c' = recorded.context c' := by simp [hc']
    have hrec := recordOutcome_context (s.closing c d o) d o c'
    rw [State.context_eq hengine, ← hrecorded] at hrec
    rcases hlook c' with h | h <;> rcases hrec with h' | h' <;> rw [h, hset, h']
    · exact .inl rfl
    · exact .inr rfl
    · exact .inr rfl
    · exact .inr (by cases s.context c' <;> rfl)
  · rw [State.station_eq lsurvey, State.setContext_station, hrecorded, recordOutcome_station, hclock,
      State.station_eq hsurvey, Dialogue.resumePoint_or] <;> rfl
  · rw [State.station_eq lsurvey, State.setContext_station, hrecorded, recordOutcome_station_of_ne hst',
      State.station_eq hsurvey]
  · rw [State.due_eq lsurvey, State.setContext_due, hrecorded, recordOutcome_due, hclock, State.due_eq hsurvey,
      State.dialoguePort, State.stationRow_eq htables]
    rfl
  · rw [lstore, State.setContext_store, rstore, State.closing_store]
  · rw [State.port_eq lports, State.setContext_port, State.port_eq rports, State.port_eq hports,
      withdrawQuery_port hs.harvest hd]
  · exact ltables.trans (rtables.trans htables)
  · exact lclock.trans (rclock.trans hclock)
  · exact lsnapshots.trans (rsnapshots.trans hsnapshots)
  · exact lnotice.trans (rnotice.trans hnotice)
  · exact lmanagement.trans (rmanagement.trans hmanagement)
  · exact lstreamer.trans (rstreamer.trans hstreamer)
  · exact lretention.trans (rretention.trans hretention)

end Sys2Proof.Machine

/-! PROOFS. Power-on and the requests that remove entries and slots: O49 and O59. -/

namespace Sys2Proof.Machine

/-! ### Power-on -/

/-- A VALID image is loaded, its entries without slot and seen mark (R6, R176). -/
theorem powerOnBase_of_valid {s : State} (h : s.retention.mark = .valid) :
    (powerOnBase s).tables = s.retention.image.tables ∧
      (powerOnBase s).clock = Clock.start s.retention.image.c s.retention.image.k ∧
      (powerOnBase s).store = s.retention.image.store.saved := by
  simp [powerOnBase, h, Store.saved]

/-- With any other mark the defaults are taken (R176). -/
theorem powerOnBase_of_not_valid {s : State} (h : s.retention.mark ≠ .valid) :
    (powerOnBase s).tables = Tables.default ∧ (powerOnBase s).clock = Clock.start 0 0 ∧
      (powerOnBase s).store = Store.empty := by
  simp [powerOnBase, h]

/-- The clock starts with the key OFF and no timer running, whatever C and K are (Table 3.2). -/
theorem powerOnBase_clock (s : State) : ∃ c k, (powerOnBase s).clock = Clock.start c k := by
  by_cases h : s.retention.mark = .valid
  · obtain ⟨-, hclock, -⟩ := powerOnBase_of_valid h
    exact ⟨_, _, hclock⟩
  · obtain ⟨-, hclock, -⟩ := powerOnBase_of_not_valid h
    exact ⟨_, _, hclock⟩

theorem powerOnBase_port (s : State) (p : Port) : (powerOnBase s).port p =
    PortUnit.start (if ((powerOnBase s).portRow p).enable then .joining else .off) :=
  mapAll_get ..

theorem keyOnAtStart_eq (s : State) :
    keyOnAtStart s = if s.general.keySource = .noSource then keyOnEvent s else s := by
  unfold keyOnAtStart
  cases s.general.keySource <;> simp

/-- Settles O49: the state before the key-on event of R51 holds the image or the defaults, and else starts
anew. -/
theorem powerOnLoadsTheImage : Obligations.PowerOnLoadsTheImage := by
  intro s
  obtain ⟨c, k, hclock⟩ := powerOnBase_clock s
  refine ⟨powerOnBase s, congrArg _ (keyOnAtStart_eq _), fun h => ?_, fun h => ?_, rfl, rfl, rfl, rfl,
    decide_eq_true_iff, ?_, ?_, ?_, ?_, ?_, rfl, rfl, powerOnBase_port s, rfl, rfl, rfl, rfl, rfl⟩
  · obtain ⟨htables, hck, hstore⟩ := powerOnBase_of_valid h
    rw [hck, hstore]
    exact ⟨htables, rfl, rfl, rfl⟩
  · obtain ⟨htables, hck, hstore⟩ := powerOnBase_of_not_valid h
    rw [hck, hstore]
    exact ⟨htables, rfl, rfl, rfl⟩
  all_goals rw [hclock]; rfl

/-! ### CLEAR -/

/-- What is left when some entries have gone: the other entries, the other slots, and everything else but the
resume points and the streamer's note of a lost slot (R19, R20, R150). -/
structure State.Cleared (s t : State) (gone : Entry → Bool) : Prop where
  store : t.store = { s.store with entries := s.store.entries.filter fun e => !gone e }
  slot : ∀ i, t.slot i = if some i ∈ (s.store.entries.filter gone).map Entry.slot then Slot.freed else s.slot i
  rings : t.snapshots.rings = s.snapshots.rings
  triggers : t.snapshots.triggers = s.snapshots.triggers
  streamer : t.streamer = { s.streamer with slotLost := t.streamer.slotLost }
  station : ∀ st, t.station st = { s.station st with resume := (t.station st).resume }
  due : ∀ q, t.due q = s.due q
  engine : t.engine = s.engine
  ports : t.ports = s.ports
  clock : t.clock = s.clock
  tables : t.tables = s.tables
  management : t.management = s.management
  notice : t.notice = s.notice

/-- Entries removed from a store in order, with a change of resume points. -/
theorem removeEntries_cleared {s t : State} {q : Entry → Bool} (hslots : SlotsOk s) (hok : s.store.Ok)
    (hq : ∀ e : Entry, q { e with slot := none } = q e) (f : Vector StationState 48)
    (hf : ∀ st, f.get st = { s.station st with resume := (f.get st).resume })
    (ht : t = { removeEntries s q with survey := { s.survey with stations := f } }) : s.Cleared t q := by
  obtain ⟨hrings, htriggers, hstreamer⟩ := removeEntries_snapshots s q
  obtain ⟨-, htables, hclock, -, hengine, hports, hmanagement, hnotice, -⟩ := removeEntries_frame s q
  subst ht
  exact
    { store := removeEntries_entries hslots hok hq
      slot := removeEntries_slot s q
      rings := hrings
      triggers := htriggers
      streamer := hstreamer
      station := hf
      due := fun _ => rfl
      engine := hengine
      ports := hports
      clock := hclock
      tables := htables
      management := hmanagement
      notice := hnotice }

theorem clearStation_cleared {s : State} (hslots : SlotsOk s) (hok : s.store.Ok) (st : StationNo) :
    s.Cleared (clearStation s st) fun e => e.station = st := by
  have hsurvey := removeEntries_survey s fun e => e.station = st
  refine removeEntries_cleared hslots hok (fun _ => rfl)
    (modifyAt s.survey.stations st fun x => { x with resume := none }) (fun x => ?_) ?_
  · rw [modifyAt_get]
    split <;> rfl
  · unfold clearStation State.modStation
    rw [hsurvey]

theorem clearStore_cleared {s : State} (hslots : SlotsOk s) (hok : s.store.Ok) :
    s.Cleared (clearStore s) fun _ => true := by
  have hsurvey := removeEntries_survey s fun _ => true
  refine removeEntries_cleared hslots hok (fun _ => rfl)
    (mapAll (fun x => { x with resume := none }) s.survey.stations) (fun x => ?_) ?_
  · rw [mapAll_get]
    rfl
  · unfold clearStore State.modSurvey
    rw [hsurvey]

/-! ### The answers -/

/-- The two frames' worth of a count in an OK answer (Table 13.5). -/
theorem answer_count (code : Byte) (s : State) (n : Nat) :
    answerFrames code (okAnswer s [bigEndian 2 n]) =
      [[code, 0, BitVec.ofNat 8 (n / 256), BitVec.ofNat 8 n, 0, 0, 0, 0]] := by
  simp [answerFrames, okAnswer, bigEndian, pad8, Result.code]

theorem answer_plain (code : Byte) (s : State) (r : Result) :
    answerFrames code (plainAnswer s r) = [[code, r.code, 0, 0, 0, 0, 0, 0]] := by
  simp [answerFrames, plainAnswer, pad8]

theorem answer_ok (code : Byte) (s : State) :
    answerFrames code (okAnswer s [[]]) = [[code, 0, 0, 0, 0, 0, 0, 0]] := by
  simp [answerFrames, okAnswer, pad8, Result.code]

theorem needBytes_of_le {n : Nat} {s : State} {data : List Byte} {a : Answer} (h : n ≤ data.length) :
    needBytes n s data a = a := if_neg (not_lt.2 h)

theorem finOf_val {n : Nat} (i : Fin n) : finOf n i.val = some i := by
  simp [finOf]

theorem finOf_of_le {n x : Nat} (h : n ≤ x) : finOf n x = none := by
  simp [finOf, not_lt.2 h]

variable {s : State} {p : Port} {b : Byte} {rest : List Byte}

theorem serveClear_of_station {st : StationNo} (h : st.val = b.toNat) (code : Byte) :
    serveClear s p (code :: b :: rest) = okAnswer (clearStation s st) [bigEndian 2 (s.entriesOf st)] := by
  have hst : finOf 48 (stagedByte (code :: b :: rest) 1) = some st := by
    change finOf 48 b.toNat = some st
    rw [← h, finOf_val]
  rw [serveClear, needBytes_of_le (by simp), hst]

theorem serveClear_of_le (h : 48 ≤ b.toNat) (code : Byte) :
    serveClear s p (code :: b :: rest) = plainAnswer s .badArg := by
  have hst : finOf 48 (stagedByte (code :: b :: rest) 1) = none := finOf_of_le h
  rw [serveClear, needBytes_of_le (by simp), hst]

theorem requestKind_clear (h : b ≠ 0xFF) : requestKind (0x0D :: b :: rest) = .clear := by
  simpa [requestKind, kindOfCode] using h

theorem requestKind_clearAll : requestKind (0x0D :: 0xFF :: rest) = .clearAll := rfl

theorem requestKind_release : requestKind (0x11 :: rest) = .release := rfl

/-! ### RELEASE -/

theorem entry_of_mem (hok : s.store.Ok) {e : Entry} (he : e ∈ s.store.entries) : s.entry e.seq = some e := by
  unfold State.entry
  cases hfind : s.store.entries.find? fun x => decide (x.seq = e.seq) with
  | none => simpa using List.find?_eq_none.1 hfind e he
  | some x =>
    have hx : x.seq = e.seq := of_decide_eq_true (List.find?_some hfind :)
    rw [hok.eq_of_seq (List.mem_of_find?_eq_some hfind) he hx]

/-- The slot of a named entry, if there is one (R151). -/
theorem entry_slot_eq_none {seq : Nat} (h : ∀ e ∈ s.store.entries, e.seq = seq → e.slot = none) :
    (s.entry seq).bind (·.slot) = none := by
  unfold State.entry
  cases hfind : s.store.entries.find? fun x => decide (x.seq = seq) with
  | none => rfl
  | some x => exact h x (List.mem_of_find?_eq_some hfind) (of_decide_eq_true (List.find?_some hfind :))

/-- Freeing the slot of one entry of a store in order: that entry alone loses it (R150). -/
theorem freeSlot_of_entry (hslots : SlotsOk s) (hok : s.store.Ok) {e : Entry} (he : e ∈ s.store.entries) {i : SlotNo}
    (hi : e.slot = some i) :
    freeSlot s i = { s with
      store := { s.store with entries := s.store.entries.map fun x =>
        if x.seq = e.seq then { x with slot := none } else x }
      streamer := s.streamer.loseSlot i
      snapshots := { s.snapshots with slots := modifyAt s.snapshots.slots i fun _ => Slot.freed } } := by
  have hentries : (s.store.entries.map fun x => if x.slot = some i then { x with slot := none } else x) =
      s.store.entries.map fun x => if x.seq = e.seq then { x with slot := none } else x := by
    refine List.map_congr_left fun x hx => ?_
    by_cases hseq : x.seq = e.seq
    · obtain rfl := hok.eq_of_seq hx he hseq
      simp [hi]
    · have hslot : x.slot ≠ some i := fun h => hseq (by rw [hslots.eq_of_slot hok hx he h hi])
      simp [hseq, hslot]
  unfold freeSlot
  simp only [State.modSlot, State.modEntries, State.modStore, State.modStreamer, decide_eq_true_eq, hentries]

theorem serveRelease_eq {b1 b2 b3 b4 : Byte} (code : Byte) {seq : Nat}
    (hseq : ((b1.toNat * 256 + b2.toNat) * 256 + b3.toNat) * 256 + b4.toNat = seq) :
    serveRelease s p (code :: b1 :: b2 :: b3 :: b4 :: rest) = match (s.entry seq).bind (·.slot) with
      | some i => okAnswer (freeSlot s i) [[]]
      | none => plainAnswer s .notFound := by
  have hfield : stagedField (code :: b1 :: b2 :: b3 :: b4 :: rest) 1 4 = seq := by
    simp [stagedField, ofBigEndian, hseq]
  rw [serveRelease, needBytes_of_le (by simp), hfield] <;> rfl

end Sys2Proof.Machine

/-! ### The statement about CLEAR and RELEASE -/

namespace Sys2Proof.Machine

/-- `Cleared`, each entry and each slot by itself. -/
theorem State.Cleared.conditions {s t : State} {gone : Entry → Bool} {P : Entry → Prop} (h : s.Cleared t gone)
    (hok : s.store.Ok) (hP : ∀ e, gone e = true ↔ P e) :
    (∀ e, e ∈ t.store.entries ↔ e ∈ s.store.entries ∧ ¬ P e) ∧
    (t.store.entries.map Entry.seq).Pairwise (· < ·) ∧
    t.store = { s.store with entries := t.store.entries } ∧
    (∀ i, (∃ e ∈ s.store.entries, P e ∧ e.slot = some i) → t.slot i = Slot.freed) ∧
    (∀ i, (∀ e ∈ s.store.entries, P e → e.slot ≠ some i) → t.slot i = s.slot i) ∧
    t.snapshots.rings = s.snapshots.rings ∧ t.snapshots.triggers = s.snapshots.triggers ∧
    (∀ st, t.station st = { s.station st with resume := (t.station st).resume }) ∧ (∀ q, t.due q = s.due q) ∧
    t.engine = s.engine ∧ t.ports = s.ports ∧ t.clock = s.clock ∧ t.tables = s.tables ∧
    t.management = s.management ∧ t.notice = s.notice ∧
    t.streamer = { s.streamer with slotLost := t.streamer.slotLost } := by
  have hmem : ∀ i, some i ∈ (s.store.entries.filter gone).map Entry.slot ↔
      ∃ e ∈ s.store.entries, P e ∧ e.slot = some i := by
    intro i
    simp only [List.mem_map, List.mem_filter, hP, and_assoc]
  refine ⟨fun e => ?_, ?_, ?_, fun i hi => ?_, fun i hi => ?_, h.rings, h.triggers, h.station, h.due, h.engine,
    h.ports, h.clock, h.tables, h.management, h.notice, h.streamer⟩
  · simp [h.store, ← hP]
  · rw [h.store]
    exact (hok.filtered _).sorted
  · rw [h.store]
  · rw [h.slot, if_pos ((hmem i).2 hi)]
  · rw [h.slot, if_neg fun hm => ?_]
    obtain ⟨e, he, hPe, hslot⟩ := (hmem i).1 hm
    exact hi e he hPe hslot

/-- Settles O59: CLEAR leaves the other entries with their slots, and RELEASE frees one slot. -/
theorem clearAndRelease : Obligations.ClearAndRelease := by
  intro s p rest hs
  refine ⟨fun b hslot => ⟨fun hb hff => ?_, fun st hst => ?_, fun hff => ?_⟩, fun b1 b2 b3 b4 hslot => ?_⟩
  · have hserve := serve_served (effect := serveClear) hslot (requestKind_clear hff)
    rw [serveClear_of_le hb, answer_plain] at hserve
    exact congrArg (fun t => Host.Outcome.next (checkSleep t)) hserve
  · have hff : b ≠ 0xFF := by
      rintro rfl
      exact absurd hst (Nat.ne_of_lt (st.isLt.trans (by decide)))
    have hserve := serve_served (effect := serveClear) hslot (requestKind_clear hff)
    rw [serveClear_of_station hst, answer_count] at hserve
    refine ⟨clearStation s st, congrArg (fun t => Host.Outcome.next (checkSleep t)) hserve,
      (clearStation_cleared hs.slots hs.store.1 st).conditions hs.store.1 fun e => decide_eq_true_iff, ?_,
      fun x hx => ?_⟩
    · simp [clearStation]
    · rw [clearStation, State.modStation_station, if_neg hx, State.station_eq (removeEntries_survey ..)]
  · subst hff
    have hserve := serve_served (effect := serveClearAll) hslot requestKind_clearAll
    rw [serveClearAll, answer_count] at hserve
    refine ⟨clearStore s, congrArg (fun t => Host.Outcome.next (checkSleep t)) hserve,
      (clearStore_cleared hs.slots hs.store.1).conditions hs.store.1 fun e => by simp, fun x => ?_⟩
    simp [clearStore, State.station]
  · have hserve := serve_served (effect := serveRelease) hslot requestKind_release
    rw [serveRelease_eq 0x11 rfl] at hserve
    refine ⟨fun hnone => ?_, fun e he hseq i hi => ?_⟩
    · rw [entry_slot_eq_none hnone] at hserve
      dsimp only at hserve
      rw [answer_plain] at hserve
      exact congrArg (fun t => Host.Outcome.next (checkSleep t)) hserve
    · rw [← hseq, entry_of_mem hs.store.1 he, Option.bind_some, hi] at hserve
      dsimp only at hserve
      rw [answer_ok, freeSlot_of_entry hs.slots hs.store.1 he hi, Streamer.loseSlot_eq] at hserve
      refine (congrArg (fun t => Host.Outcome.next (checkSleep t)) hserve).trans ?_
      rw [hseq]
      rfl

end Sys2Proof.Machine

/-! PROOFS. The eviction order and a merge into an existing entry: O29 and O31. -/

namespace Sys2Proof.Machine

/-! ### The eviction order -/

/-- The three keys of R39, the first deciding first: the eviction order is the order of these triples. -/
def Entry.evictionKey (e : Entry) : Nat ×ₗ Nat ×ₗ Nat := toLex (e.rank, toLex (e.lastReport, e.seq))

theorem Entry.evictionKey_lt_iff (a b : Entry) : a.evictionKey < b.evictionKey ↔
    a.rank < b.rank ∨ a.rank = b.rank ∧
      (a.lastReport < b.lastReport ∨ a.lastReport = b.lastReport ∧ a.seq < b.seq) := by
  simp [Entry.evictionKey, Prod.Lex.toLex_lt_toLex]

/-- The model's comparison is the order of the keys. -/
theorem Entry.evictedBefore_iff (a b : Entry) : a.evictedBefore b = true ↔ a.evictionKey < b.evictionKey := by
  rw [Entry.evictionKey_lt_iff, Entry.evictedBefore]
  split
  · next hrank => simp [hrank]
  · next hrank =>
    rw [not_not] at hrank
    split
    · next hreport => simp [hrank, hreport]
    · next hreport => simp [hrank, not_not.1 hreport]

/-- Entries with distinct sequence numbers have distinct keys. -/
theorem eq_of_evictionKey {es : List Entry} (hseqs : (es.map Entry.seq).Nodup) {a b : Entry} (ha : a ∈ es)
    (hb : b ∈ es) (h : a.evictionKey = b.evictionKey) : a = b := by
  simp only [Entry.evictionKey, toLex_inj, Prod.mk.injEq] at h
  obtain ⟨-, -, hseq⟩ := h
  exact List.inj_on_of_nodup_map hseqs ha hb hseq

/-- The victim's key is the least (R10, R39). -/
theorem victimOf_le {es : List Entry} {v : Entry} (h : victimOf es = some v) :
    ∀ e ∈ es, v.evictionKey ≤ e.evictionKey := by
  induction es generalizing v with
  | nil => cases h
  | cons x xs ih =>
    rw [victimOf] at h
    split at h
    · next hnone =>
      cases h
      simp [victimOf_eq_none hnone]
    · next w hw =>
      have hrest := ih hw
      split at h <;> cases h
      · next hbefore =>
        have hlt := (Entry.evictedBefore_iff ..).1 hbefore
        exact List.forall_mem_cons.2 ⟨le_rfl, fun e he => hlt.le.trans (hrest e he)⟩
      · next hafter =>
        exact List.forall_mem_cons.2 ⟨not_lt.1 (mt (Entry.evictedBefore_iff ..).2 hafter), hrest⟩

/-- Among entries with distinct sequence numbers the victim is the one whose key is below every other's. -/
theorem victimOf_eq_some_iff {es : List Entry} (hseqs : (es.map Entry.seq).Nodup) {v : Entry} (hv : v ∈ es) :
    victimOf es = some v ↔ ∀ e ∈ es, e ≠ v → v.evictionKey < e.evictionKey := by
  refine ⟨fun hvictim e he hne => ?_, fun hfirst => ?_⟩
  · exact (victimOf_le hvictim e he).lt_of_ne fun hkey => hne (eq_of_evictionKey hseqs hv he hkey).symm
  · cases hvictim : victimOf es with
    | none =>
      rw [victimOf_eq_none hvictim] at hv
      cases hv
    | some w =>
      by_contra hne
      have hlt := hfirst w (victimOf_mem hvictim) (by simpa using hne)
      exact absurd (victimOf_le hvictim v hv) (not_le.2 hlt)

/-- Rank: eight times the tier, plus the peak severity (R38). -/
theorem Entry.rank_eq (e : Entry) : e.rank = e.peak + match e.state with
    | .active => 24
    | .pending => 16
    | .stored => 8
    | .gone => 0 := by
  unfold Entry.rank rankOf
  cases e.state <;> simp [EntryState.tier] <;> omega

/-! ### A merge into an existing entry -/

theorem broughtActive_iff (before : EntryState) (rep : ReportedState) :
    broughtActive before rep = true ↔ rep = .active ∧ before ≠ .active := by
  simp [broughtActive]

/-- The sources of an entry with the merge's source added (R36). -/
theorem Sources.add_eq (x : Sources) (src : MergeSource) : x.add src =
    { announce := x.announce || decide (src = .announce), readback := x.readback || decide (src = .readback) } := by
  cases src <;> simp [Sources.add]

/-- T after a merge: which rule applies depends on the count, the entry's L and the state before (Table 2.2). -/
theorem mergedTotal_eq (e : Entry) (m : Merge) : mergedTotal e m = match m.count, e.last with
    | some rep, some held => reconciledTotal e.total held rep
    | some rep, none => max e.total rep.r
    | none, none => if m.state = .active ∧ e.state ≠ .active then min 65535 (e.total + 1) else e.total
    | none, some _ => e.total := by
  unfold mergedTotal
  cases m.count with
  | some rep => cases e.last <;> rfl
  | none =>
    cases e.last with
    | some held => rfl
    | none => simp only [broughtActive_iff]; rfl

/-- A store in order has one entry of a key (R3). -/
theorem Store.Ok.eq_of_key {st : Store} (h : st.Ok) {e e' : Entry} (he : e ∈ st.entries) (he' : e' ∈ st.entries)
    (hstation : e.station = e'.station) (hcode : e.code = e'.code) : e = e' := by
  obtain ⟨-, -, -, hkeys, -⟩ := h
  exact List.inj_on_of_nodup_map hkeys he he' (Prod.ext hstation hcode)

variable {s : State} {m : Merge} {e : Entry}

theorem entryOfKey_of_mem (hok : s.store.Ok) (he : e ∈ s.store.entries) :
    s.entryOfKey e.station e.code = some e := by
  cases hfind : s.entryOfKey e.station e.code with
  | none => exact absurd ⟨rfl, rfl⟩ (entryOfKey_eq_none.1 hfind e he)
  | some x =>
    obtain ⟨hstation, hcode⟩ : x.station = e.station ∧ x.code = e.code := by simpa using List.find?_some hfind
    rw [hok.eq_of_key (List.mem_of_find?_eq_some hfind) he hstation hcode]

/-- The state with a merge taken into one of its entries, before it is handed on (R8). -/
def State.withMerged (s : State) (e : Entry) (m : Merge) : State :=
  { s with store := { s.store with
    entries := s.store.entries.map fun x =>
      if x.seq = e.seq then mergedEntry e m s.clock.c s.clock.k else x } }

/-- A merge whose key has an entry is taken into that entry, and handed on when it brings it into ACTIVE (R8, R13). -/
theorem takeMerge_of_mem (hok : s.store.Ok) (he : e ∈ s.store.entries) (hstation : e.station = m.station)
    (hcode : e.code = m.code) :
    takeMerge s m = if m.state = .active ∧ e.state ≠ .active then handOff (s.withMerged e m) e.seq m
      else s.withMerged e m := by
  have hfind : s.entryOfKey m.station m.code = some e := hstation ▸ hcode ▸ entryOfKey_of_mem hok he
  have hmerged : s.modEntries (fun x => x.seq = e.seq) (fun x => mergedEntry x m s.clock.c s.clock.k) =
      s.withMerged e m := by
    have hentries : (s.store.entries.map fun x =>
          if decide (x.seq = e.seq) then mergedEntry x m s.clock.c s.clock.k else x) =
        s.store.entries.map fun x => if x.seq = e.seq then mergedEntry e m s.clock.c s.clock.k else x := by
      refine List.map_congr_left fun x hx => ?_
      by_cases hseq : x.seq = e.seq
      · rw [hok.eq_of_seq hx he hseq]
        simp
      · simp [hseq]
    rw [State.modEntries, State.modStore, hentries]
    rfl
  simp only [takeMerge, hfind, hmerged, broughtActive_iff]

end Sys2Proof.Machine

/-! ### The statements about the victim and about merges -/

namespace Sys2Proof.Machine

/-- Settles O31: the victim has the least eviction key, and distinct entries have distinct keys. -/
theorem victimIsFirstInEvictionOrder : Obligations.VictimIsFirstInEvictionOrder := by
  intro es hseqs rank before
  have hrank (a : Entry) : rank a = a.rank := a.rank_eq.symm
  have hbefore (a b : Entry) : before a b ↔ a.evictionKey < b.evictionKey := by
    simp only [before, hrank, Entry.evictionKey_lt_iff]
  simp only [hbefore]
  refine ⟨fun a ha b hb => ⟨Entry.evictedBefore_iff a b, fun hne => ?_⟩, fun hnil => hnil ▸ rfl,
    fun v hv => victimOf_eq_some_iff hseqs hv⟩
  have hkeys : a.evictionKey ≠ b.evictionKey := fun hkey => hne (eq_of_evictionKey hseqs ha hb hkey)
  rw [not_lt, hkeys.le_iff_lt]

/-- Settles O29: the merge is taken into the entry of its key, whose fields it changes one by one. -/
theorem mergeUpdatesTheEntry : Obligations.MergeUpdatesTheEntry := by
  intro s m e hok he hstation hcode
  dsimp only
  rw [takeMerge_of_mem hok he hstation hcode, State.withMerged, mergedEntry, mergedTotal_eq, Sources.add_eq]
  rfl

end Sys2Proof.Machine

/-! PROOFS. The frames that carry the key and the vehicle's time: O26. -/

namespace Sys2Proof.Machine

variable {s : State} {p : Port} {f : Frame} {row : IdentRow} {d : Descriptor} {data : List Byte}

theorem readValue_of_short (h : data.length < d.valueField.pos + d.valueField.width) : readValue d data = none := by
  simp [readValue, Field.within, h]

theorem readValue_of_reached (h : ¬ data.length < d.valueField.pos + d.valueField.width) :
    readValue d data = some (readField d d.valueField data) := by
  simp [readValue, Field.within, not_lt.1 h]

theorem handOn_key (hdata : f.remote = false) (hcls : row.cls = .key) : handOn s p f row = takeKey s p row f.data := by
  simp [handOn, hdata, hcls]

theorem handOn_time (hdata : f.remote = false) (hcls : row.cls = .time) :
    handOn s p f row = takeTime s p row f.data := by
  simp [handOn, hdata, hcls]

/-- A reading brings an event when it differs from the key state (R49). -/
theorem applyReading_keyReading (s : State) (raw : Nat) (mask on : BitVec 32) :
    applyReading s (keyReading raw mask on) =
      if s.clock.key = .off ∧ decide (BitVec.ofNat 32 raw &&& mask = on) = true then keyOnEvent s
      else if s.clock.key = .on ∧ decide (BitVec.ofNat 32 raw &&& mask = on) = false then keyOffEvent s
      else s := by
  unfold applyReading keyReading
  by_cases hon : BitVec.ofNat 32 raw &&& mask = on <;> cases hkey : s.clock.key <;> simp [hon]

/-- A vehicle time ahead of C, equal to it and behind it (R45). -/
theorem modClock_follow (s : State) (v : Nat) : (s.modClock fun k => k.follow v) =
    if s.clock.c < v then
      { s with clock := { s.clock with c := v, ms := 0, hold := false, holdTimer := none } }
    else if s.clock.c = v then { s with clock := { s.clock with hold := false, holdTimer := none } }
    else if s.clock.hold then s
    else { s with clock := { s.clock with hold := true, holdTimer := some 60000 } } := by
  change { s with clock := s.clock.follow v } = _
  rw [Clock.follow]
  by_cases hahead : s.clock.c < v
  · rw [if_pos hahead, if_pos hahead]
    rfl
  · rw [if_neg hahead, if_neg hahead]
    by_cases hequal : s.clock.c = v
    · rw [if_pos hequal.symm, if_pos hequal]
      rfl
    · rw [if_neg (Ne.symm hequal), if_neg hequal, Clock.holdBack]
      split <;> rfl

end Sys2Proof.Machine

/-! ### The statement about KEY and TIME frames -/

namespace Sys2Proof.Machine

/-- Settles O26: a KEY or TIME frame is malformed when it is short of its value, and otherwise read by the source
in force. -/
theorem keyAndTimeFrames : Obligations.KeyAndTimeFrames := by
  intro s p f row hdata
  refine ⟨fun hcls hshort => ?_, fun hcls hlong => ?_, fun hcls hlong => ?_⟩
  · rcases hcls with hcls | hcls
    · rw [handOn_key hdata hcls, takeKey, readValue_of_short hshort]
      rfl
    · rw [handOn_time hdata hcls, takeTime, readValue_of_short hshort]
      rfl
  · rw [handOn_key hdata hcls, takeKey, readValue_of_reached hlong]
    dsimp only
    rw [keyValue, applyReading_keyReading]
    rfl
  · rw [handOn_time hdata hcls, takeTime, readValue_of_reached hlong]
    dsimp only
    rw [vehicleTime, modClock_follow]
    rfl

end Sys2Proof.Machine

/-! PROOFS. The timebase and the clock: O2, O42 and O11. -/

namespace Sys2Proof.Machine

variable {s t : State}

/-! ### The idle part -/

/-- Two due steps or more: a free choice takes one of them (R79). -/
theorem idleChoice_of_several (h : 2 ≤ (dueSteps s).length) :
    ∃ c ∈ dueSteps s, idleChoice s = some (c, s.choose) := by
  unfold idleChoice
  split
  · next hd => simp [hd] at h
  · next hd => simp [hd] at h
  · next c d rest hd =>
    refine ⟨_, ?_, rfl⟩
    rw [hd, List.getD_eq_getElem _ _ (by simpa using Nat.mod_lt _ (Nat.succ_pos _))]
    exact List.getElem_mem _

/-- An idle part takes the step that `idleChoice` names, in the state that comes with it. -/
theorem step_of_choice {c : Instr} {u : State} (hp : s.pending = []) (hc : idleChoice s = some (c, u)) :
    step s = exec c u := by
  simp only [step, hp, hc]

/-- With nothing due an idle part lets a millisecond pass. -/
theorem step_of_no_choice (hp : s.pending = []) (hc : idleChoice s = none) :
    step s = .next (passMillisecond s) := by
  simp only [step, hp, hc]

theorem PortState.serves_iff (x : PortState) : x.serves = true ↔ x = .active ∨ x = .passive := by
  cases x <;> simp [PortState.serves]

/-! ### One millisecond -/

theorem Clock.millisecond_of_lt {k : Clock} (h : k.ms < 999) :
    k.millisecond = { k with ms := k.ms + 1, holdTimer := k.holdTimer.map (· - 1) } := by
  unfold Clock.millisecond
  exact if_pos h

theorem Clock.millisecond_of_last {k : Clock} (h : ¬ k.ms < 999) :
    k.millisecond = { k with
      ms := 0, holdTimer := k.holdTimer.map (· - 1)
      c := if k.hold = false ∧ k.c < 4294967295 then k.c + 1 else k.c } := by
  unfold Clock.millisecond
  exact if_neg h

/-- A millisecond leaves the hold, K and the key, and counts the hold timer down. -/
theorem Clock.millisecond_frame (k : Clock) :
    k.millisecond.holdTimer = k.holdTimer.map (· - 1) ∧ k.millisecond.hold = k.hold ∧
      k.millisecond.k = k.k ∧ k.millisecond.key = k.key ∧ k.millisecond.keyLoss = k.keyLoss := by
  by_cases h : k.ms < 999
  · rw [Clock.millisecond_of_lt h]
    exact ⟨rfl, rfl, rfl, rfl, rfl⟩
  · rw [Clock.millisecond_of_last h]
    exact ⟨rfl, rfl, rfl, rfl, rfl⟩

theorem passMillisecond_of_asleep (h : s.retention.power = .sleep) :
    passMillisecond s = { s with
      clock := s.clock.millisecond
      notice := { s.notice with timer := s.notice.timer.map (· - 1) } } := by
  unfold passMillisecond
  exact if_pos h

theorem passMillisecond_of_awake (h : s.retention.power ≠ .sleep) :
    passMillisecond s = runTimers { s with clock := s.clock.millisecond } := by
  unfold passMillisecond
  exact if_neg h

/-- The clock after a millisecond is that of its own millisecond, but that the key-loss timer runs too outside
SLEEP (R50, R55, R175). -/
theorem passMillisecond_clock (s : State) :
    (passMillisecond s).clock = { s.clock.millisecond with
      keyLoss := if s.retention.power = .sleep then s.clock.keyLoss else s.clock.keyLoss.map (· - 1) } := by
  obtain ⟨-, -, -, -, hkeyLoss⟩ := s.clock.millisecond_frame
  by_cases h : s.retention.power = .sleep
  · rw [passMillisecond_of_asleep h, if_pos h, ← hkeyLoss]
  · rw [passMillisecond_of_awake h, if_neg h, ← hkeyLoss]
    rfl

/-- Settles O2: on an empty queue a due step is taken, or else a millisecond passes, which each block's timers
see. -/
theorem idlePartGoesOn : Obligations.IdlePartGoesOn := by
  intro s
  obtain ⟨hholdTimer, hhold, hk, hkey, -⟩ := s.clock.millisecond_frame
  refine ⟨fun hp => ⟨fun hd => ?_, fun c hd => ?_, fun hd => ?_⟩, fun hms => ?_, fun hms => ?_, ?_, ?_, ?_, ?_,
    fun hsleep => ?_, fun hawake => ?_⟩
  · exact step_of_no_choice hp (by simp only [idleChoice, hd])
  · exact step_of_choice hp (by simp only [idleChoice, hd])
  · obtain ⟨c, hc, hchoice⟩ := idleChoice_of_several hd
    exact ⟨c, hc, step_of_choice hp hchoice⟩
  · rw [passMillisecond_clock, Clock.millisecond_of_lt hms]
    exact ⟨rfl, rfl⟩
  · rw [passMillisecond_clock, Clock.millisecond_of_last (by omega)]
    exact ⟨rfl, rfl⟩
  · rw [passMillisecond_clock]; exact hholdTimer
  · rw [passMillisecond_clock]; exact hhold
  · rw [passMillisecond_clock]; exact hk
  · rw [passMillisecond_clock]; exact hkey
  · refine ⟨by rw [passMillisecond_of_asleep hsleep], ?_⟩
    rw [passMillisecond_clock, if_pos hsleep]
  · refine ⟨by rw [passMillisecond_clock, if_neg hawake], ?_⟩
    rw [passMillisecond_of_awake hawake]
    refine ⟨rfl, fun c => mapAll_get .., fun p => ?_, fun i => mapAll_get .., rfl, ?_, ?_⟩
    · simp only [← PortState.serves_iff]
      exact mapAll_get ..
    · unfold runTimers SleepTimer.millisecond
      cases s.retention.sleepTimer <;> rfl
    · rfl

/-- Settles O42: an internal tick is `Clock.tick`, and the expiry clears the hold of a running timer. -/
theorem ticksAndTheHold : Obligations.TicksAndTheHold := by
  refine fun s => ⟨rfl, fun hruns => ?_, fun hstopped => ?_⟩
  · have hsome : s.clock.holdTimer.isSome = true := Option.isSome_iff_ne_none.2 hruns
    simp only [exec, execHoldTimerExpiry, State.modClock, hsome, if_true]
    rfl
  · simp only [exec, execHoldTimerExpiry, State.modClock, hstopped]
    rfl

end Sys2Proof.Machine

namespace Sys2Proof.Machine

/-! ### Clocks that do not run back -/

/-- K does not fall, and stops at 65,535 (R48). -/
def Clock.Cycles (k k' : Clock) : Prop := k.k ≤ 65535 → k.k ≤ k'.k ∧ k'.k ≤ 65535

/-- Neither C nor K falls, and K stops at 65,535 (R43, R48). -/
def Clock.Runs (k k' : Clock) : Prop := k.c ≤ k'.c ∧ k.Cycles k'

variable {k k' : Clock} {s t : State}

theorem Clock.Cycles.of_eq (h : k'.k = k.k) : k.Cycles k' := fun hk => ⟨h.ge, h.le.trans hk⟩

theorem Clock.Runs.of_eq (hc : k'.c = k.c) (hk : k'.k = k.k) : k.Runs k' := ⟨hc.ge, .of_eq hk⟩

theorem Clock.Runs.refl (k : Clock) : k.Runs k := .of_eq rfl rfl

theorem Clock.Runs.trans {k'' : Clock} (h : k.Runs k') (h' : k'.Runs k'') : k.Runs k'' := by
  obtain ⟨hc, hcycles⟩ := h
  obtain ⟨hc', hcycles'⟩ := h'
  refine ⟨hc.trans hc', fun hk => ?_⟩
  obtain ⟨hrise, hmax⟩ := hcycles hk
  obtain ⟨hrise', hmax'⟩ := hcycles' hmax
  exact ⟨hrise.trans hrise', hmax'⟩

theorem Clock.tick_runs (k : Clock) : k.Runs k.tick := by
  refine ⟨?_, .of_eq rfl⟩
  unfold Clock.tick
  dsimp only
  split <;> omega

/-- A vehicle time moves C forward only: one behind C holds the clock back (R45). -/
theorem Clock.follow_runs (k : Clock) (v : Nat) : k.Runs (k.follow v) := by
  unfold Clock.follow
  split
  · next hahead => exact ⟨hahead.le, .of_eq rfl⟩
  · split
    · exact .of_eq rfl rfl
    · unfold Clock.holdBack
      split <;> exact .of_eq rfl rfl

theorem Clock.millisecond_runs (k : Clock) : k.c ≤ k.millisecond.c := by
  by_cases h : k.ms < 999
  · rw [Clock.millisecond_of_lt h]
  · rw [Clock.millisecond_of_last h]
    dsimp only
    split <;> omega

/-! ### Operations on the clock -/

theorem ringStep_clock (s : State) (n : Nat) (p : Port) (x : RingFrame) : (ringStep s n p x).clock = s.clock := by
  simp

theorem checkSleep_clock (s : State) : (checkSleep s).clock = s.clock := by simp

theorem respond_clock (s : State) (p : Port) (frames : List (List Byte)) : (respond s p frames).clock = s.clock := by
  simp

theorem keyOnEvent_clock (s : State) :
    (keyOnEvent s).clock = { s.clock with key := .on, k := sat16 s.clock.k 1 } := by
  simp [keyOnEvent]

theorem keyOffEvent_clock (s : State) : (keyOffEvent s).clock = { s.clock with key := .off } := by
  simp [keyOffEvent]

/-- A key-on event raises K, which stops at 65,535 (R48). -/
theorem keyOnEvent_runs (s : State) : s.clock.Runs (keyOnEvent s).clock := by
  rw [keyOnEvent_clock]
  exact ⟨le_rfl, fun hk => ⟨(min_eq_right hk).ge.trans (le_sat16 ..), sat16_le ..⟩⟩

theorem keyOffEvent_runs (s : State) : s.clock.Runs (keyOffEvent s).clock := by
  rw [keyOffEvent_clock]
  exact .of_eq rfl rfl

theorem applyReading_runs (s : State) (reading : KeyState) : s.clock.Runs (applyReading s reading).clock := by
  unfold applyReading
  split
  · exact keyOnEvent_runs s
  · exact keyOffEvent_runs s
  · exact .refl _
  · exact .refl _

theorem takeKey_runs (s : State) (p : Port) (row : IdentRow) (data : List Byte) :
    s.clock.Runs (takeKey s p row data).clock := by
  unfold takeKey
  dsimp only
  split
  · unfold keyValue
    split
    · exact .refl _
    · exact applyReading_runs ..
  · exact .refl _

theorem takeTime_runs (s : State) (p : Port) (row : IdentRow) (data : List Byte) :
    s.clock.Runs (takeTime s p row data).clock := by
  unfold takeTime
  dsimp only
  split
  · unfold vehicleTime
    split
    · exact .refl _
    · exact Clock.follow_runs ..
  · exact .refl _

/-- Of the classes of arrivals only KEY and TIME reach the clock (R130). -/
theorem handOn_runs (s : State) (p : Port) (f : Frame) (row : IdentRow) :
    s.clock.Runs (handOn s p f row).clock := by
  unfold handOn
  split
  · exact .refl _
  · cases row.cls with
    | key => exact takeKey_runs ..
    | time => exact takeTime_runs ..
    | pass | announce | reply | manage => exact .of_eq (by simp) (by simp)

theorem takeArrival_runs (s : State) (p : Port) (f : Frame) : s.clock.Runs (takeArrival s p f).clock := by
  unfold takeArrival
  dsimp only
  have hhand (row : IdentRow) (u : State) (hu : u.clock = s.clock) : s.clock.Runs (handOn u p f row).clock :=
    hu ▸ handOn_runs u p f row
  split
  · exact .of_eq (by simp) (by simp)
  · next row _ =>
    split
    · rw [ringStep_clock]
      exact hhand row _ (by split <;> simp)
    · exact hhand row _ (by split <;> simp)

theorem keyOnAtStart_runs (s : State) : s.clock.Runs (keyOnAtStart s).clock := by
  rw [keyOnAtStart_eq]
  split
  · exact keyOnEvent_runs s
  · exact .refl _

theorem commitKeySource_runs (s : State) (old new : KeySource) : s.clock.Runs (commitKeySource s old new).clock := by
  unfold commitKeySource
  split
  · dsimp only
    split
    · refine Clock.Runs.trans ?_ (keyOnEvent_runs _)
      exact .of_eq rfl rfl
    · exact .of_eq rfl rfl
  · exact .of_eq rfl rfl
  · exact .refl _
  · exact .refl _

theorem commitClockSource_runs (s : State) (old new : ClockSource) :
    s.clock.Runs (commitClockSource s old new).clock := by
  cases old <;> cases new <;> exact .of_eq rfl rfl

theorem applyGeneral_runs (s : State) (row : GeneralRow) : s.clock.Runs (applyGeneral s row).clock :=
  (commitClockSource_runs (s.modTables _) ..).trans (commitKeySource_runs ..)

/-- Only a GENERAL row may bring a key-on event (R51). -/
theorem commitRow_runs (s : State) (table row : Nat) : s.clock.Runs (commitRow s table row).state.clock := by
  have happly {α : Type} (x : Option α) (f : α → State) (hf : ∀ r, s.clock.Runs (f r).clock) :
      s.clock.Runs (applyDecoded s x f).state.clock := by
    cases x with
    | none => exact .refl _
    | some r => exact hf r
  have hdefer (pc : Option PendingCommit) : s.clock.Runs (applyOrDefer s pc).state.clock := by
    unfold applyOrDefer
    (repeat' split) <;> exact .of_eq (by simp [plainAnswer]) (by simp [plainAnswer])
  unfold commitRow
  dsimp only
  (repeat' split)
  · exact happly _ _ fun r => .refl _
  · exact .refl _
  · exact hdefer _
  · exact .refl _
  · exact hdefer _
  · exact .refl _
  · exact happly _ _ fun r => .of_eq (by simp) (by simp)
  · exact .refl _
  · exact happly _ _ fun r => applyGeneral_runs s r
  · exact .refl _
  · exact .refl _

/-! ### Commands and the clock -/

/-- A request does to the clock what its effect does. -/
theorem serve_clock_of_effect {k : RequestKind} {effect : State → Port → List Byte → Answer} {P : Clock → Prop}
    (hs : P s.clock) (h : ∀ p data, P (effect s p data).state.clock) : P (checkSleep (serve s k effect)).clock := by
  rw [checkSleep_clock]
  unfold serve
  split
  · next p data _ =>
    dsimp only
    split
    · rw [respond_clock]
      exact h p data
    · exact hs
  · exact hs
  · exact hs

theorem serveCommit_runs (s : State) (p : Port) (data : List Byte) :
    s.clock.Runs (serveCommit s p data).state.clock := by
  unfold serveCommit needBytes
  (repeat' split)
  · exact .refl _
  · exact .refl _
  · exact commitRow_runs ..

/-- Every command but POWER_ON and SET_CLOCK lets the clock run on. -/
theorem exec_runs {i : Instr} (hpower : i ≠ .powerOn) (hset : i ≠ .setClock) :
    Leads (exec i s) fun t => s.clock.Runs t.clock := by
  have hsame {u : State} (h : u.clock = s.clock) : s.clock.Runs u.clock := h ▸ .refl _
  cases i with
  | powerOn => exact absurd rfl hpower
  | setClock => exact absurd rfl hset
  | arrival p f =>
    simp only [exec, execArrival]
    (repeat' split)
    · exact leads_next.2 (takeArrival_runs s p f)
    · exact leads_next.2 (.refl _)
    · exact leads_refused
  | internalTick => exact leads_next.2 (Clock.tick_runs s.clock)
  | holdTimerExpiry =>
    refine leads_next.2 ?_
    dsimp only [State.modClock_clock]
    split <;> exact .of_eq rfl rfl
  | keyLossTimerExpiry =>
    simp only [exec, execKeyLossTimerExpiry]
    (repeat' split)
    · exact leads_next.2 (.refl _)
    · refine leads_next.2 (Clock.Runs.trans ?_ (keyOffEvent_runs _))
      exact .of_eq rfl rfl
    · exact leads_next.2 (.of_eq rfl rfl)
  | saveComplete =>
    simp only [exec, execSaveComplete]
    split
    · exact leads_next.2 (.of_eq (by simp [enterSleep]) (by simp [enterSleep]))
    · exact leads_next.2 (.refl _)
  | wake p =>
    simp only [exec, execWake]
    split
    · have hwake : s.clock.Runs (wakeUp s).clock := .of_eq (by simp [wakeUp]) (by simp [wakeUp])
      exact leads_next.2 (hwake.trans (keyOnAtStart_runs _))
    · exact leads_next.2 (.refl _)
  | commit => exact leads_next.2 (serve_clock_of_effect (.refl _) (serveCommit_runs s))
  | receiveError | transmissionSent | transmissionFailed | lostArbitration | busIdle | recoveryEvent | transmitChoice
  | guardTimerExpiry | grant | waitTimerExpiry | roundTick | roundEnd | keyOffGraceExpiry | captureTrigger
  | postWindowExpiry | queueHeldResponse | exportLook | snapshotLook | queueNotice | noticeIntervalExpiry
  | sleepDelayExpiry =>
    simp only [exec, execReceiveError, execTransmissionSent, execTransmissionFailed, execLostArbitration, execBusIdle,
      execRecoveryEvent, execTransmitChoice, execGuardTimerExpiry, execGrant, execWaitTimerExpiry, execRoundTick,
      execRoundEnd, execKeyOffGraceExpiry, execCaptureTrigger, execPostWindowExpiry, execQueueHeldResponse,
      execExportLook, execSnapshotLook, execQueueNotice, execNoticeIntervalExpiry, execSleepDelayExpiry]
    (repeat' split) <;> exact leads_next.2 (hsame (by simp))
  | unknownRequest | status | portStatus | stationStatus | readRow | readEntry | stage | softReset | surveyStart
  | surveyStop | readNow | recover | clear | clearAll | exportStart | exportStop | snapshot | release | notices =>
    refine leads_next.2 (serve_clock_of_effect (.refl _) fun p data => ?_)
    simp only [serveUnknown, serveStatus, servePortStatus, serveStationStatus, serveReadRow, serveReadEntry, serveStage,
      serveSoftReset, serveSurveyStart, serveSurveyStop, serveReadNow, serveRecover, serveClear, serveClearAll,
      serveExport, serveExportStop, serveSnapshot, startSnapshot, serveRelease, serveNotices, needBytes, okAnswer,
      plainAnswer]
    (repeat' split) <;> exact hsame (by simp)

/-- SET_CLOCK leaves K (R47). -/
theorem exec_setClock_cycles (s : State) : Leads (exec .setClock s) fun t => s.clock.Cycles t.clock := by
  refine leads_next.2 (serve_clock_of_effect (.of_eq rfl) fun p data => ?_)
  unfold serveSetClock needBytes
  split <;> exact .of_eq rfl

/-- Settles O11: commands other than SET_CLOCK let C and K run on, and SET_CLOCK leaves K. -/
theorem clockNeverRunsBack : Obligations.ClockNeverRunsBack := by
  refine ⟨fun i s t ht hpower => ?_, fun s => ?_⟩
  · by_cases hset : i = .setClock
    · subst hset
      exact ⟨absurd rfl, exec_setClock_cycles s t ht⟩
    · obtain ⟨hc, hk⟩ := exec_runs hpower hset t ht
      exact ⟨fun _ => hc, hk⟩
  · rw [passMillisecond_clock]
    obtain ⟨-, -, hk, -⟩ := s.clock.millisecond_frame
    exact ⟨s.clock.millisecond_runs, hk⟩

end Sys2Proof.Machine

/-! PROOFS. Key-on and key-off events and the wake from SLEEP: O43 and O48. -/

namespace Sys2Proof.Machine

variable {s : State}

/-! ### Key events -/

/-- The key-on event at the survey: a PAUSED or DONE one starts a round, in the order of R70. -/
theorem surveyKeyOn_eq (s : State) : surveyKeyOn s =
    if s.survey.state = .paused ∨ s.survey.state = .done then
      slotEvents { s with survey := { s.survey with
        grace := none, roundNumber := 0, roundTimer := 0, state := .running, tick := some 100, endDue := false } }
    else { s with survey := { s.survey with grace := none, roundNumber := 0, roundTimer := 0 } } := by
  unfold surveyKeyOn
  cases h : s.survey.state <;> simp [State.modSurvey, h, startRound, tickInterval]

/-- The key-off event at the survey up to the start of the grace: a started one is PAUSED, and the due queues are
empty (R71). -/
def State.keyedOff (s : State) : State :=
  { s with survey := { s.survey with
    state := if s.survey.state = .running ∨ s.survey.state = .done then .paused else s.survey.state
    tick := if s.survey.state = .running ∨ s.survey.state = .done then none else s.survey.tick
    endDue := if s.survey.state = .running ∨ s.survey.state = .done then false else s.survey.endDue
    due := Vector.replicate 3 { urgent := [], normal := [] }
    stations := mapAll (fun x => if x.run = .due then { x with run := .idle, urgent := false } else x)
      s.survey.stations } }

theorem surveyKeyOff_eq (s : State) : surveyKeyOff s = startGrace s.keyedOff := by
  unfold surveyKeyOff
  cases h : s.survey.state <;>
    simp [State.modSurvey, h, stopRound, flushDue, State.keyedOff, DueQueue.empty]

/-- A grace of 0 s is over at once (R72). -/
theorem startGrace_of_zero (h : s.general.keyOffGrace = 0) :
    startGrace s = cutAll { s with survey := { s.survey with grace := none } } := if_pos h

theorem startGrace_of_ne_zero (h : s.general.keyOffGrace ≠ 0) :
    startGrace s = { s with survey := { s.survey with grace := some (1000 * s.general.keyOffGrace) } } := if_neg h

theorem execKeyLossTimerExpiry_of_stopped (h : s.clock.keyLoss = none) :
    exec .keyLossTimerExpiry s = .next s := by
  simp only [exec, execKeyLossTimerExpiry, h]

theorem execKeyLossTimerExpiry_of_running (h : s.clock.keyLoss ≠ none) :
    exec .keyLossTimerExpiry s = .next (if s.clock.key = .on then
      keyOffEvent (s.modClock fun k => { k with keyLoss := none })
      else s.modClock fun k => { k with keyLoss := none }) := by
  obtain ⟨n, hn⟩ := Option.ne_none_iff_exists'.1 h
  cases hkey : s.clock.key <;> simp only [exec, execKeyLossTimerExpiry, hn, hkey] <;> rfl

/-- Settles O43: each event is its part at the clock, at the survey and at the retention unit. -/
theorem keyEvents : Obligations.KeyEvents := by
  refine ⟨fun s => ?_, fun s => ?_, fun s => ⟨execKeyLossTimerExpiry_of_stopped, fun h => ?_⟩⟩
  · dsimp only
    rw [keyOnEvent, surveyKeyOn_eq]
    rfl
  · dsimp only
    rw [keyOffEvent, surveyKeyOff_eq]
    by_cases hgrace : s.general.keyOffGrace = 0
    · simp only [if_pos hgrace]
      exact congrArg restartSleep (startGrace_of_zero (s := (s.modClock _).keyedOff) hgrace)
    · simp only [if_neg hgrace]
      exact congrArg restartSleep (startGrace_of_ne_zero (s := (s.modClock _).keyedOff) hgrace)
  · exact execKeyLossTimerExpiry_of_running h

/-! ### Wake -/

/-- Every port is changed with its own row. -/
theorem modAllPorts_port (s : State) (f : PortUnit → PortRow → PortUnit) (p : Port) :
    (modAllPorts s f).port p = f (s.port p) (s.portRow p) := by
  have hports : allPorts = [0, 1, 2] := rfl
  rw [modAllPorts, hports]
  fin_cases p <;> simp

theorem modAllPorts_eq (s : State) (f : PortUnit → PortRow → PortUnit) :
    modAllPorts s f = { s with ports := (modAllPorts s f).ports } := by
  obtain ⟨hpending, htables, hstore, hclock, hsurvey, hengine, hsnapshots, hmanagement, hstreamer, hnotice,
    hretention, hchoices⟩ := modAllPorts_frame s f
  exact State.eq_of_components hpending htables hstore hclock hsurvey hengine rfl hsnapshots hmanagement hstreamer
    hnotice hretention hchoices

theorem SurveyState.afterWake_eq (x : SurveyState) : x.afterWake = if x = .off then .off else .paused := by
  cases x <;> rfl

/-- A wake, block by block (R175). -/
theorem wakeUp_eq (s : State) : wakeUp s = { s with
    ports := (modAllPorts s PortUnit.wake).ports
    snapshots := { s.snapshots with rings := Vector.replicate 3 [] }
    clock := { s.clock with key := .off, keyLoss := none }
    survey := { s.survey with
      state := if s.survey.state = .off then .off else .paused
      tick := none, endDue := false, grace := none }
    engine := { s.engine with lastGranted := 2 }
    management := { s.management with slot := .empty }
    streamer := { s.streamer with state := .idle }
    retention := { s.retention with
      power := .run, sleepTimer := .running (1000 * s.general.sleepDelay) } } := by
  have hports := modAllPorts_eq s PortUnit.wake
  generalize (modAllPorts s PortUnit.wake).ports = ports at hports ⊢
  rw [wakeUp, hports, ← SurveyState.afterWake_eq]
  rfl

theorem execWake_of_stays {p : Port} (h : s.retention.power ≠ .sleep ∨ (s.portRow p).enable = false) :
    exec (.wake p) s = .next s := by
  refine if_neg ?_
  rintro ⟨hsleep, henable⟩
  rcases h with h | h
  · exact h hsleep
  · cases h.symm.trans henable

theorem execWake_of_wakes {p : Port} (hsleep : s.retention.power = .sleep) (henable : (s.portRow p).enable = true) :
    exec (.wake p) s = .next (keyOnAtStart (wakeUp s)) := if_pos ⟨hsleep, henable⟩

/-- Settles O48: the state before the key-on event of R51 is `wakeUp s`. -/
theorem wakeRestoresRun : Obligations.WakeRestoresRun := by
  refine fun p s => ⟨execWake_of_stays, fun hsleep henable => ⟨wakeUp s, ?_, ?_⟩⟩
  · rw [execWake_of_wakes hsleep henable, keyOnAtStart_eq, wakeUp_eq]
    rfl
  · rw [wakeUp_eq]
    refine ⟨rfl, fun q => modAllPorts_port s PortUnit.wake q, fun q => ?_, fun _ => rfl, rfl, rfl, rfl, rfl, rfl,
      rfl, rfl, rfl⟩
    exact Vector.get_replicate ..

end Sys2Proof.Machine

/-! PROOFS. The requests COMMIT, READ_NOW, SET_CLOCK and RECOVER: O56 and O58. -/

namespace Sys2Proof.Machine

variable {s t : State} {p : Port} {rest : List Byte}

/-! ### Requests answered in one frame -/

/-- A request in the slot whose effect gives a plain answer: the state it has made, with the code and the result
(R153, R155). -/
theorem serve_of_plainAnswer {k : RequestKind} {effect : State → Port → List Byte → Answer} {code : Byte}
    {args : List Byte} {r : Result} (hslot : s.management.slot = .serving p (code :: args))
    (hkind : requestKind (code :: args) = k) (h : effect s p (code :: args) = plainAnswer t r) :
    serve s k effect = respond t p [[code, r.code, 0, 0, 0, 0, 0, 0]] := by
  rw [serve_served hslot hkind, h, answer_plain]
  rfl

/-! ### READ_NOW (R68) -/

theorem serveReadNow_of_le {n : Byte} (h : 48 ≤ n.toNat) (code : Byte) :
    serveReadNow s p (code :: n :: rest) = plainAnswer s .badArg := by
  have hst : finOf 48 (stagedByte (code :: n :: rest) 1) = none := finOf_of_le h
  rw [serveReadNow, needBytes_of_le (by simp), hst]

theorem serveReadNow_of_station {n : Byte} {st : StationNo} (h : st.val = n.toNat) (code : Byte) :
    serveReadNow s p (code :: n :: rest) =
      if (s.stationRow st).enable = false then plainAnswer s .badArg
      else if (s.station st).run = .engaged then plainAnswer s .busy
      else plainAnswer (makeUrgent s st) .ok := by
  have hst : finOf 48 (stagedByte (code :: n :: rest) 1) = some st := by
    change finOf 48 n.toNat = some st
    rw [← h, finOf_val]
  rw [serveReadNow, needBytes_of_le (by simp), hst]
  rfl

/-! ### SET_CLOCK (R47) -/

theorem serveSetClock_eq (code b1 b2 b3 b4 : Byte) :
    serveSetClock s p (code :: b1 :: b2 :: b3 :: b4 :: rest) = plainAnswer { s with clock := { s.clock with
      c := ((b1.toNat * 256 + b2.toNat) * 256 + b3.toNat) * 256 + b4.toNat
      ms := 0, hold := false, holdTimer := none } } .ok := by
  have hfield : stagedField (code :: b1 :: b2 :: b3 :: b4 :: rest) 1 4 =
      ((b1.toNat * 256 + b2.toNat) * 256 + b3.toNat) * 256 + b4.toNat := by
    simp [stagedField, ofBigEndian]
  rw [serveSetClock, needBytes_of_le (by simp), hfield]
  rfl

/-! ### RECOVER (R124) -/

theorem serveRecover_of_le {n : Byte} (h : 3 ≤ n.toNat) (code : Byte) :
    serveRecover s p (code :: n :: rest) = plainAnswer s .badArg := by
  have hq : finOf 3 (stagedByte (code :: n :: rest) 1) = none := finOf_of_le h
  rw [serveRecover, needBytes_of_le (by simp), hq]

theorem serveRecover_of_port {n : Byte} {q : Port} (h : q.val = n.toNat) (code : Byte) :
    serveRecover s p (code :: n :: rest) =
      if (s.port q).state = .busOff then plainAnswer (s.modPort q PortUnit.rejoin) .ok
      else plainAnswer s .badArg := by
  have hq : finOf 3 (stagedByte (code :: n :: rest) 1) = some q := by
    change finOf 3 n.toNat = some q
    rw [← h, finOf_val]
  rw [serveRecover, needBytes_of_le (by simp), hq]
  rfl

/-! ### Rows in force (R158, R159) -/

/-- A row in force leaves its station IDLE when it was DUE and the row does not keep it where it stands (R57). -/
theorem StationState.afterRow_eq (x : StationState) (keeps : Bool) : x.afterRow keeps =
    { x with
      resume := none, failures := 0, lapped := false
      run := if x.run = .due ∧ keeps = false then .idle else x.run
      urgent := if x.run = .due ∧ keeps = false then false else x.urgent } := by
  unfold StationState.afterRow
  by_cases h : x.run = .due ∧ keeps = false <;> simp [h]

/-- A STATION row in force, with the effects of R57 on its station and on the due queue it may leave. -/
theorem applyStationRow_eq (s : State) (n : StationNo) (r : StationRow) :
    let old := s.stationRow n
    let keeps := r.enable = true ∧ r.homePort = old.homePort
    let leaves := (s.station n).run = .due ∧ ¬ keeps
    let applied := { s with tables := { s.tables with
      stations := s.tables.stations.set n.val r n.isLt } }.modStation n fun x =>
        { x with
          resume := none, failures := 0, lapped := false
          run := if leaves then .idle else x.run
          urgent := if leaves then false else x.urgent }
    applyStationRow s n r = if keeps then applied else settleLook (applied.modDue old.homePort fun q =>
      { urgent := q.urgent.filter (fun y => y ≠ n)
        normal := q.normal.filter (fun y => y ≠ n) }) s := by
  intro old keeps leaves applied
  have hkeeps : (r.enable && decide (r.homePort = old.homePort)) = decide keeps := by
    simp [keeps, Bool.decide_and]
  have happlied : ((s.modTables fun t => { t with stations := modifyAt t.stations n fun _ => r }).modStation n
      fun x => x.afterRow (decide keeps)) = applied := by
    refine State.modStation_congr ?_
    rw [StationState.afterRow_eq]
    simp only [decide_eq_false_iff_not]
    rfl
  unfold applyStationRow
  dsimp only
  rw [hkeeps, happlied]
  simp only [decide_eq_true_eq]
  rfl

/-- A streamer that streams to the port is held. -/
theorem pauseStream_eq (s : State) (p : Port) : pauseStream s p =
    if s.streamer.state = .streaming ∧ s.streamer.port = p then
      { s with streamer := { s.streamer with state := .paused } } else s := by
  by_cases h : s.streamer.state = .streaming ∧ s.streamer.port = p
  · simp only [pauseStream, State.modStreamer, if_pos h]
  · simp only [pauseStream, State.modStreamer, if_neg h]

/-- A PORT row in force, with the port's fresh start, the dialogues it loses and the stream it holds (R125). -/
theorem applyPortRow_eq (s : State) (n : Port) (r : PortRow) :
    let base := { s with tables := { s.tables with
      ports := s.tables.ports.set n.val r n.isLt } }.modPort n fun u =>
        { u with
          tx := none, forward := [], harvest := [], output := []
          lastServed := .management, guardTimer := none, txErrors := 0, rxErrors := 0
          state := if r.enable then .joining else .off }
    let lost := losePort base n
    applyPortRow s n r = settleLook (if lost.streamer.state = .streaming ∧ lost.streamer.port = n then
      { lost with streamer := { lost.streamer with state := .paused } } else lost) s := by
  intro base lost
  rw [← pauseStream_eq lost n]
  rfl

theorem commitClockSource_eq (s : State) (old new : ClockSource) : commitClockSource s old new =
    s.modClock fun k => { k with
      hold := if old = .vehicle ∧ new = .internal then false else k.hold
      holdTimer := if old = .vehicle ∧ new = .internal then none else k.holdTimer } := by
  cases old <;> cases new <;> rfl

theorem commitKeySource_eq (s : State) (old new : KeySource) :
    let base := s.modClock fun k => { k with
      keyLoss :=
        if old = .keyFrames ∧ new = .noSource then none
        else if old = .noSource ∧ new = .keyFrames then some (1000 * s.general.keyLossTime)
        else k.keyLoss }
    commitKeySource s old new =
      if old = .keyFrames ∧ new = .noSource ∧ s.clock.key = .off then keyOnEvent base else base := by
  intro base
  cases old <;> cases new
  case keyFrames.noSource =>
    change (if s.clock.key = .off then _ else _) = _
    simp only [true_and]
    rfl
  case noSource.keyFrames => rfl
  case noSource.noSource => rfl
  case keyFrames.keyFrames => rfl

/-- The GENERAL row in force, with the effects of R44 and R51 on the clock and the key. -/
theorem applyGeneral_eq (s : State) (r : GeneralRow) :
    let old := s.general
    let released := old.clockSource = .vehicle ∧ r.clockSource = .internal
    let base := { s with
      tables := { s.tables with general := r }
      clock := { s.clock with
        hold := if released then false else s.clock.hold
        holdTimer := if released then none else s.clock.holdTimer
        keyLoss :=
          if old.keySource = .keyFrames ∧ r.keySource = .noSource then none
          else if old.keySource = .noSource ∧ r.keySource = .keyFrames then
            some (1000 * r.keyLossTime)
          else s.clock.keyLoss } }
    applyGeneral s r = if old.keySource = .keyFrames ∧ r.keySource = .noSource ∧ s.clock.key = .off then
      keyOnEvent base else base := by
  intro old released base
  unfold applyGeneral
  dsimp only
  rw [commitClockSource_eq, commitKeySource_eq]
  rfl

/-! ### COMMIT: the row that a request names -/

theorem commitRow_ident (s : State) {n : Fin 96} {row : Nat} (h : n.val = row) : commitRow s 0 row =
    applyDecoded s (decodeIdent s.management.staging.toList) fun r =>
      { s with tables := { s.tables with ident := s.tables.ident.set n.val r n.isLt } } := by
  subst h
  simp only [commitRow, finOf_val]
  rfl

theorem commitRow_station (s : State) {n : StationNo} {row : Nat} (h : n.val = row) : commitRow s 1 row =
    applyOrDefer s ((decodeStation s.general.roundLength s.management.staging.toList).map (.station n)) := by
  subst h
  simp only [commitRow, finOf_val]

theorem commitRow_format (s : State) {n : DescriptorNo} {row : Nat} (h : n.val = row) : commitRow s 2 row =
    applyOrDefer s ((decodeFormat s.management.staging.toList).map (.format n)) := by
  subst h
  simp only [commitRow, finOf_val]

theorem commitRow_port (s : State) {n : Port} {row : Nat} (h : n.val = row) : commitRow s 3 row =
    applyDecoded s (decodePort n s.management.staging.toList) (applyPortRow s n) := by
  subst h
  simp only [commitRow, finOf_val]

theorem commitRow_general (s : State) : commitRow s 4 0 =
    applyDecoded s (decodeGeneral s.management.staging.toList) (applyGeneral s) := by
  simp only [commitRow, if_true]

/-- A table or a row that the unit does not have. -/
theorem commitRow_of_outside {table row : Nat} (h : 5 ≤ table ∨ table = 0 ∧ 96 ≤ row ∨ table = 1 ∧ 48 ≤ row ∨
    table = 2 ∧ 12 ≤ row ∨ table = 3 ∧ 3 ≤ row ∨ table = 4 ∧ row ≠ 0) :
    commitRow s table row = plainAnswer s .badArg := by
  rcases h with h | ⟨rfl, h⟩ | ⟨rfl, h⟩ | ⟨rfl, h⟩ | ⟨rfl, h⟩ | ⟨rfl, h⟩
  · obtain ⟨k, rfl⟩ := Nat.exists_eq_add_of_le' h
    rfl
  iterate 4 simp only [commitRow, finOf_of_le h]
  · simp only [commitRow, if_neg h]

/-! ### COMMIT: a checked row held back or in force -/

theorem applyOrDefer_of_waits {pc : PendingCommit} (h : s.commitWaits pc = true) : applyOrDefer s (some pc) =
    plainAnswer { s with management := { s.management with pendingCommit := some pc } } .deferred := if_pos h

theorem applyOrDefer_of_free {pc : PendingCommit} (h : s.commitWaits pc = false) :
    applyOrDefer s (some pc) = plainAnswer (applyPending s pc) .ok := if_neg (Bool.eq_false_iff.1 h)

/-- A descriptor is in use while an ENGAGED station's row names it. -/
theorem formatInUse_iff {n : DescriptorNo} : s.formatInUse n = true ↔
    ∃ st, (s.station st).run = .engaged ∧ (s.stationRow st).descriptor = n := by
  simp [State.formatInUse, allStations]

/-! ### COMMIT answered -/

/-- A COMMIT in the slot on a free row, answered as its row is. -/
theorem exec_commit_of_row {table row : Byte} {r : Result}
    (hslot : s.management.slot = .serving p (0x06 :: table :: row :: rest))
    (hfree : s.management.pendingCommit = none) (h : commitRow s table.toNat row.toNat = plainAnswer t r) :
    exec .commit s = .next (checkSleep (respond t p [[6, r.code, 0, 0, 0, 0, 0, 0]])) := by
  have hanswer : serveCommit s p (0x06 :: table :: row :: rest) = plainAnswer t r := by
    rw [serveCommit, needBytes_of_le (by simp), hfree]
    exact h
  exact congrArg (fun t => Host.Outcome.next (checkSleep t)) (serve_of_plainAnswer hslot rfl hanswer)

theorem exec_commit_of_pending {table row : Byte}
    (hslot : s.management.slot = .serving p (0x06 :: table :: row :: rest))
    (hpending : s.management.pendingCommit ≠ none) :
    exec .commit s = .next (checkSleep (respond s p [[6, Result.busy.code, 0, 0, 0, 0, 0, 0]])) := by
  have hanswer : serveCommit s p (0x06 :: table :: row :: rest) = plainAnswer s .busy := by
    rw [serveCommit, needBytes_of_le (by simp), if_pos (Option.isSome_iff_ne_none.2 hpending)]
  exact congrArg (fun t => Host.Outcome.next (checkSleep t)) (serve_of_plainAnswer hslot rfl hanswer)

/-! ### The statement about COMMIT -/

/-- Settles O56: the row of each table is checked, held back or in force, by the equation of its table. -/
theorem commitChecksAndApplies : Obligations.CommitChecksAndApplies := by
  intro s p table row rest hslot answer staged
  refine ⟨exec_commit_of_pending hslot, fun hfree => ?_⟩
  have answered {t : State} {r : Result} (h : commitRow s table.toNat row.toNat = plainAnswer t r) :
      answer t r.code := exec_commit_of_row hslot hfree h
  refine ⟨fun houtside => ?_, ?_, ?_, ?_, ?_, ?_⟩
  · refine answered (r := .badArg) (commitRow_of_outside ?_)
    simpa [← BitVec.toNat_inj] using houtside
  · rintro rfl n hn
    have hrow := commitRow_ident s hn
    refine ⟨fun hdec => answered (r := .badArg) ?_, fun r hdec => answered (r := .ok) ?_⟩
    · exact hrow.trans (congrArg (applyDecoded s · _) hdec)
    · exact hrow.trans (congrArg (applyDecoded s · _) hdec)
  · rintro rfl n hn old dec
    have hrow := commitRow_station s hn
    refine ⟨fun hdec => answered (r := .badArg) ?_, fun r hdec => ?_⟩
    · exact hrow.trans (congrArg (fun d => applyOrDefer s (d.map (.station n))) hdec)
    · replace hrow := hrow.trans (congrArg (fun d => applyOrDefer s (d.map (.station n))) hdec)
      refine ⟨fun hrun => answered (r := .deferred) ?_, fun hrun => answered (r := .ok) ?_⟩
      · exact hrow.trans (applyOrDefer_of_waits (decide_eq_true hrun))
      · exact hrow.trans ((applyOrDefer_of_free (pc := .station n r) (decide_eq_false hrun)).trans
          (congrArg (plainAnswer · .ok) (applyStationRow_eq s n r)))
  · rintro rfl n hn used
    have hrow := commitRow_format s hn
    refine ⟨fun hdec => answered (r := .badArg) ?_, fun r hdec => ?_⟩
    · exact hrow.trans (congrArg (fun d => applyOrDefer s (d.map (.format n))) hdec)
    · replace hrow := hrow.trans (congrArg (fun d => applyOrDefer s (d.map (.format n))) hdec)
      refine ⟨fun hused => answered (r := .deferred) ?_, fun hunused => answered (r := .ok) ?_⟩
      · exact hrow.trans (applyOrDefer_of_waits (formatInUse_iff.2 hused))
      · exact hrow.trans (applyOrDefer_of_free (Bool.eq_false_iff.2 (mt formatInUse_iff.1 hunused)))
  · rintro rfl n hn
    have hrow := commitRow_port s hn
    refine ⟨fun hdec => answered (r := .badArg) ?_, fun r hdec => answered (r := .ok) ?_⟩
    · exact hrow.trans (congrArg (applyDecoded s · _) hdec)
    · exact hrow.trans ((congrArg (applyDecoded s · _) hdec).trans
        (congrArg (plainAnswer · .ok) (applyPortRow_eq s n r)))
  · rintro rfl rfl
    have hrow := commitRow_general s
    refine ⟨fun hdec => answered (r := .badArg) ?_, fun r hdec => answered (r := .ok) ?_⟩
    · exact hrow.trans (congrArg (applyDecoded s · _) hdec)
    · exact hrow.trans ((congrArg (applyDecoded s · _) hdec).trans
        (congrArg (plainAnswer · .ok) (applyGeneral_eq s r)))

/-! ### The statement about READ_NOW, SET_CLOCK and RECOVER -/

/-- Settles O58: the three requests by R68, R47 and R124, answered in one frame each. -/
theorem readNowSetClockRecover : Obligations.ReadNowSetClockRecover := by
  intro s p rest
  refine ⟨fun n hslot => ?_, fun b1 b2 b3 b4 hslot => ?_, fun n hslot => ?_⟩
  · have answer {t : State} {r : Result} (h : serveReadNow s p (0x0A :: n :: rest) = plainAnswer t r) :
        exec .readNow s = .next (checkSleep (respond t p [[0x0A, r.code, 0, 0, 0, 0, 0, 0]])) :=
      congrArg (fun t => Host.Outcome.next (checkSleep t)) (serve_of_plainAnswer hslot rfl h)
    refine ⟨fun h => answer (r := .badArg) (serveReadNow_of_le h _), fun st hst => ?_⟩
    have hserve := serveReadNow_of_station (s := s) (p := p) (rest := rest) hst 0x0A
    refine ⟨fun hoff => ?_, fun hon heng => ?_, fun hon hrun hurgent => ?_, fun hon hrun hurgent hdue => ?_⟩
    · exact answer (r := .badArg) (by rw [hserve, if_pos hoff])
    · exact answer (r := .busy) (by rw [hserve, if_neg (by simp [hon]), if_pos heng])
    · rw [if_neg (by simp [hon]), if_neg (by simp [hrun]), makeUrgent_of_settled (.inr ⟨hrun, hurgent⟩)] at hserve
      exact answer (r := .ok) hserve
    · rw [if_neg (by simp [hon]), if_neg hrun] at hserve
      exact ⟨_, answer (r := .ok) hserve, makeUrgent_moves hdue hrun hurgent⟩
  · exact congrArg (fun t => Host.Outcome.next (checkSleep t))
      (serve_of_plainAnswer hslot rfl (serveSetClock_eq _ b1 b2 b3 b4))
  · have answer {t : State} {r : Result} (h : serveRecover s p (0x0C :: n :: rest) = plainAnswer t r) :
        exec .recover s = .next (checkSleep (respond t p [[0x0C, r.code, 0, 0, 0, 0, 0, 0]])) :=
      congrArg (fun t => Host.Outcome.next (checkSleep t)) (serve_of_plainAnswer hslot rfl h)
    refine ⟨fun h => answer (r := .badArg) (serveRecover_of_le h _), fun q hq => ?_⟩
    have hserve := serveRecover_of_port (s := s) (p := p) (rest := rest) hq 0x0C
    refine ⟨fun hstate => answer (r := .badArg) ?_, fun hstate => answer (r := .ok) ?_⟩
    · rw [hserve, if_neg hstate]
    · rw [hserve, if_pos hstate]
      rfl

end Sys2Proof.Machine

/-! PROOFS. The ranges that every step is to keep: O4 fails, at a power-on from the nonvolatile image. -/

namespace Sys2Proof.Machine

/-! ### Power-on from an image -/

/-- A power-on takes C from a VALID image as it stands there, whatever it is (R176). -/
theorem execPowerOn_c_of_valid {s t : State} (hmark : s.retention.mark = .valid) (ht : exec .powerOn s = .next t) :
    t.clock.c = s.retention.image.c := by
  obtain rfl := Host.Outcome.next.inj ht
  obtain ⟨-, hclock, -⟩ := powerOnBase_of_valid hmark
  rw [keyOnAtStart_eq]
  split
  · simp [keyOnEvent, hclock, Clock.start]
  · rw [hclock]
    rfl

/-- The state after reset with a VALID image whose C is one above the highest value of C, and a power-on to
come. -/
def State.overflowingImage : State :=
  { State.reset with
    pending := [.powerOn]
    retention := { State.reset.retention with
      mark := .valid
      image := { State.reset.retention.image with c := 4294967296 } } }

/-- `State.Inv` bounds the C in force, and not the C of the image: the state is in order. -/
theorem State.overflowingImage_inv : State.overflowingImage.Inv := Laws.inv_of_check (by decide +kernel)

end Sys2Proof.Machine

/-! ### The statement about ranges -/

namespace Sys2Proof.Machine

/-- Refutes O4: a state in order may hold a VALID image with C = 4,294,967,296, and POWER_ON then brings C out of
the range of R43. The premise `State.Inv` says nothing of C and K in the image. -/
theorem not_stepKeepsRanges : ¬ Obligations.StepKeepsRanges := by
  intro h
  have hstep : step State.overflowingImage = exec .powerOn { State.overflowingImage with pending := [] } := rfl
  obtain ⟨-, ⟨hc, -⟩, -⟩ := h State.overflowingImage _ State.overflowingImage_inv hstep
  have himage := execPowerOn_c_of_valid (s := { State.overflowingImage with pending := [] }) rfl rfl
  rw [himage] at hc
  exact absurd hc (by decide)

end Sys2Proof.Machine

/-! PROOFS. Which stations are due, engaged and bound, and what each operation does to that: O8. -/

namespace Sys2Proof.Machine

/-! ### The roster -/

/-- What R58, R65, R77, R78, R99 and R159 speak of: the run-state and urgency of each station, the due queues, the
station each context is bound to, the home port and the descriptor of each station, the pending commit, and which
ports serve. -/
structure Roster where
  run : StationNo → RunState
  urgent : StationNo → Bool
  due : Port → DueQueue
  bound : ContextNo → Option StationNo
  home : StationNo → Port
  format : StationNo → DescriptorNo
  commit : Option PendingCommit
  serves : Port → Bool

/-- The roster of a state. -/
def State.roster (s : State) : Roster where
  run st := (s.station st).run
  urgent st := (s.station st).urgent
  due p := s.due p
  bound c := (s.context c).map Dialogue.station
  home st := (s.stationRow st).homePort
  format st := (s.stationRow st).descriptor
  commit := s.management.pendingCommit
  serves p := (s.port p).state.serves

@[simp] theorem State.roster_run (s : State) (st : StationNo) : s.roster.run st = (s.station st).run := rfl
@[simp] theorem State.roster_urgent (s : State) (st : StationNo) : s.roster.urgent st = (s.station st).urgent := rfl
@[simp] theorem State.roster_due (s : State) (p : Port) : s.roster.due p = s.due p := rfl
@[simp] theorem State.roster_context (s : State) (c : ContextNo) :
    s.roster.bound c = (s.context c).map Dialogue.station := rfl
@[simp] theorem State.roster_home (s : State) (st : StationNo) : s.roster.home st = (s.stationRow st).homePort := rfl
@[simp] theorem State.roster_format (s : State) (st : StationNo) :
    s.roster.format st = (s.stationRow st).descriptor := rfl
@[simp] theorem State.roster_commit (s : State) : s.roster.commit = s.management.pendingCommit := rfl
@[simp] theorem State.roster_serves (s : State) (p : Port) : s.roster.serves p = (s.port p).state.serves := rfl

/-- Two rosters are the same when they agree field by field. -/
theorem Roster.eq_of_fields {r r' : Roster} (run : ∀ st, r.run st = r'.run st := by intros; rfl)
    (urgent : ∀ st, r.urgent st = r'.urgent st := by intros; rfl) (due : ∀ p, r.due p = r'.due p := by intros; rfl)
    (bound : ∀ c, r.bound c = r'.bound c := by intros; rfl) (home : ∀ st, r.home st = r'.home st := by intros; rfl)
    (format : ∀ st, r.format st = r'.format st := by intros; rfl) (commit : r.commit = r'.commit := by rfl)
    (serves : ∀ p, r.serves p = r'.serves p := by intros; rfl) : r = r' := by
  obtain ⟨⟩ := r
  obtain ⟨⟩ := r'
  rw [Roster.mk.injEq]
  exact ⟨funext run, funext urgent, funext due, funext bound, funext home, funext format, commit, funext serves⟩

/-- A station that stands in a due queue. -/
def DueQueue.Holds (q : DueQueue) (st : StationNo) : Prop := st ∈ q.urgent ∨ st ∈ q.normal

/-- The contexts bound to stations of the port. -/
def Roster.contextsOf (r : Roster) (p : Port) : List ContextNo :=
  allContexts.filter fun c => (r.bound c).any fun st => decide (r.home st = p)

/-- Stations, due queues and contexts agree (R58, R65, R76, R77, R78). -/
structure Roster.Ok (r : Roster) : Prop where
  due_iff : ∀ st, r.run st = .due ↔ (r.due (r.home st)).Holds st
  urgent_iff : ∀ st, r.urgent st = true ↔ st ∈ (r.due (r.home st)).urgent
  home_of_holds : ∀ p st, (r.due p).Holds st → r.home st = p
  nodup : ∀ p, ((r.due p).urgent ++ (r.due p).normal).Nodup
  engaged_iff : ∀ st, r.run st = .engaged ↔ ∃ c, r.bound c = some st
  eq_of_bound : ∀ c c' st, r.bound c = some st → r.bound c' = some st → c = c'
  length_le : ∀ p, (r.contextsOf p).length ≤ 2

/-- The row of the pending commit still waits (R159). -/
def Roster.Waits (r : Roster) : PendingCommit → Prop
  | .station n _ => r.run n = .engaged
  | .format n _ => ∃ st, r.run st = .engaged ∧ r.format st = n

/-- A pending commit is that of a row which still waits (R159). -/
def Roster.Waiting (r : Roster) : Prop := ∀ pc, r.commit = some pc → r.Waits pc

/-- Every bound station's port serves (R77, R99). -/
def Roster.Serving (r : Roster) : Prop := ∀ c st, r.bound c = some st → r.serves (r.home st) = true

/-- No context is bound. -/
def Roster.Vacant (r : Roster) : Prop := ∀ c, r.bound c = none

variable {s t u : State} {r r' : Roster}

/-! ### The roster and the properties of Sys2Proof/Safety.lean -/

theorem State.roster_bound {c : ContextNo} {st : StationNo} :
    s.roster.bound c = some st ↔ ∃ d, s.context c = some d ∧ d.station = st := Option.map_eq_some_iff

theorem State.roster_bound_of_context {c : ContextNo} {d : Dialogue} (h : s.context c = some d) :
    s.roster.bound c = some d.station := State.roster_bound.2 ⟨d, h, rfl⟩

theorem State.contextsOf_roster (s : State) (p : Port) : s.roster.contextsOf p = s.contextsOf p := by
  refine List.filter_congr fun c _ => ?_
  simp only [State.boundTo, State.roster, State.dialoguePort]
  cases s.context c <;> rfl

theorem commitWaits_iff {pc : PendingCommit} : s.commitWaits pc = true ↔ s.roster.Waits pc := by
  cases pc with
  | station n row => exact decide_eq_true_iff
  | format n row => exact formatInUse_iff

theorem pendingOk_iff : PendingOk s ↔ s.roster.Waiting :=
  forall₂_congr fun _ _ => commitWaits_iff

theorem portsServeDialogues_iff : PortsServeDialogues s ↔ s.roster.Serving := by
  refine ⟨fun h c st hc => ?_, fun h c d hd => h c d.station (State.roster_bound_of_context hd)⟩
  obtain ⟨d, hd, rfl⟩ := State.roster_bound.1 hc
  exact h c d hd

/-- The roster is in order when the due queues and the bindings of the state are. -/
theorem roster_ok_iff : s.roster.Ok ↔ DueOk s ∧ BindingsOk s := by
  constructor
  · intro h
    refine ⟨⟨fun st => ⟨h.due_iff st, h.urgent_iff st⟩, h.home_of_holds, h.nodup⟩, fun st => ?_, ?_, fun p => ?_⟩
    · rw [← exists_congr fun c => State.roster_bound]
      exact h.engaged_iff st
    · intro c c' d d' hd hd' heq
      exact h.eq_of_bound c c' d.station (State.roster_bound_of_context hd)
        (heq ▸ State.roster_bound_of_context hd')
    · exact s.contextsOf_roster p ▸ h.length_le p
  · rintro ⟨⟨hstation, hhome, hnodup⟩, hengaged, heq, hlength⟩
    refine ⟨fun st => (hstation st).1, fun st => (hstation st).2, hhome, hnodup, fun st => ?_, ?_, fun p => ?_⟩
    · rw [exists_congr fun c => State.roster_bound]
      exact hengaged st
    · intro c c' st hc hc'
      obtain ⟨d, hd, hst⟩ := State.roster_bound.1 hc
      obtain ⟨d', hd', hst'⟩ := State.roster_bound.1 hc'
      exact heq c c' d d' hd hd' (hst.trans hst'.symm)
    · exact (s.contextsOf_roster p).symm ▸ hlength p

/-! ### Changes of a roster -/

/-- The station joins its home port's due queue, in the group given (R64, R67). -/
def Roster.join (r : Roster) (n : StationNo) (urgent : Bool) : Roster :=
  { r with
    run := Function.update r.run n .due
    urgent := Function.update r.urgent n urgent
    due := Function.update r.due (r.home n) (if urgent then
      { r.due (r.home n) with urgent := (r.due (r.home n)).urgent ++ [n] }
      else { r.due (r.home n) with normal := (r.due (r.home n)).normal ++ [n] }) }

/-- The station leaves the normal group for the urgent one (R66, R67). -/
def Roster.hasten (r : Roster) (n : StationNo) : Roster :=
  { r with
    urgent := Function.update r.urgent n true
    due := Function.update r.due (r.home n)
      { urgent := (r.due (r.home n)).urgent ++ [n]
        normal := (r.due (r.home n)).normal.filter (fun x => x ≠ n) } }

/-- Every due queue is emptied (R66). -/
def Roster.flush (r : Roster) : Roster :=
  { r with
    run := fun st => if r.run st = .due then .idle else r.run st
    urgent := fun st => if r.run st = .due then false else r.urgent st
    due := fun _ => DueQueue.empty }

/-- The context lets its station go, which is then IDLE (R97). -/
def Roster.release (r : Roster) (c : ContextNo) (n : StationNo) : Roster :=
  { r with
    run := Function.update r.run n .idle
    urgent := Function.update r.urgent n false
    bound := Function.update r.bound c none }

/-- The context is bound to the head of the port's due queue (R78). -/
def Roster.grant (r : Roster) (c : ContextNo) (p : Port) (n : StationNo) : Roster :=
  { r with
    run := Function.update r.run n .engaged
    urgent := Function.update r.urgent n false
    due := Function.update r.due p (r.due p).removeHead
    bound := Function.update r.bound c (some n) }

/-- The station's row is another one, and the station leaves its due queue when the row does not keep it (R57). -/
def Roster.applyRow (r : Roster) (n : StationNo) (row : StationRow) : Roster :=
  let keeps := row.enable = true ∧ row.homePort = r.home n
  let leaves := r.run n = .due ∧ ¬ keeps
  { r with
    run := Function.update r.run n (if leaves then .idle else r.run n)
    urgent := Function.update r.urgent n (if leaves then false else r.urgent n)
    due := if keeps then r.due else Function.update r.due (r.home n) ((r.due (r.home n)).remove n)
    home := Function.update r.home n row.homePort
    format := Function.update r.format n row.descriptor }

end Sys2Proof.Machine

/-! PROOFS. Every change of a roster keeps it in order. -/

namespace Sys2Proof.Machine

variable {s t u : State} {r r' : Roster} {n : StationNo} {c : ContextNo} {p : Port}

/-! ### Rosters in order -/

theorem Roster.Ok.not_holds (h : r.Ok) (hrun : r.run n ≠ .due) (p : Port) : ¬ (r.due p).Holds n := by
  intro hp
  obtain rfl := h.home_of_holds p n hp
  exact hrun ((h.due_iff n).2 hp)

theorem Roster.Ok.run_of_bound (h : r.Ok) (hc : r.bound c = some n) : r.run n = .engaged :=
  (h.engaged_iff n).2 ⟨c, hc⟩

theorem Roster.Ok.not_bound (h : r.Ok) (hrun : r.run n ≠ .engaged) (c : ContextNo) : r.bound c ≠ some n :=
  fun hc => hrun (h.run_of_bound hc)

theorem Roster.mem_contextsOf {c : ContextNo} : c ∈ r.contextsOf p ↔ ∃ st, r.bound c = some st ∧ r.home st = p := by
  simp [Roster.contextsOf, allContexts, Option.any_eq_true]

/-- Contexts that are bound to stations of a port number no more when their number is bounded with one added. -/
theorem Roster.contextsOf_length_le {cs : List ContextNo} (h : ∀ c ∈ r.contextsOf p, c ∈ cs) :
    (r.contextsOf p).length ≤ cs.length :=
  (List.subperm_of_subset ((List.nodup_finRange 4).filter _) h).length_le

/-- What a roster keeps of another one when no context is newly bound and no bound station moves. -/
theorem Roster.Ok.length_le_of_bound (h : r.Ok)
    (hbound : ∀ c st, r'.bound c = some st → r.bound c = some st ∧ r'.home st = r.home st) (p : Port) :
    (r'.contextsOf p).length ≤ 2 := by
  refine (Roster.contextsOf_length_le fun c hc => ?_).trans (h.length_le p)
  obtain ⟨st, hst, hp⟩ := Roster.mem_contextsOf.1 hc
  obtain ⟨hold, hhome⟩ := hbound c st hst
  exact Roster.mem_contextsOf.2 ⟨st, hold, hhome ▸ hp⟩

/-- A station that is neither DUE nor ENGAGED joins its queue. -/
theorem Roster.Ok.join (h : r.Ok) (hdue : r.run n ≠ .due) (hengaged : r.run n ≠ .engaged) (urgent : Bool) :
    (r.join n urgent).Ok := by
  have hnot := h.not_holds hdue
  have hbound := h.not_bound hengaged
  obtain ⟨hdueIff, hurgentIff, hhome, hnodup, hengagedIff, heq, hlength⟩ := h
  simp only [DueQueue.Holds] at hnot hdueIff hhome
  refine ⟨fun st => ?_, fun st => ?_, fun p st => ?_, fun p => ?_, fun st => ?_, heq, hlength⟩
  · simp only [Roster.join, DueQueue.Holds, Function.update_apply]
    grind
  · simp only [Roster.join, Function.update_apply]
    grind
  · simp only [Roster.join, DueQueue.Holds, Function.update_apply]
    grind
  · simp only [Roster.join, Function.update_apply]
    have hp := hnodup p
    have hn := hnot p
    split
    · next heq =>
      subst heq
      cases urgent <;> grind
    · exact hp
  · simp only [Roster.join, Function.update_apply]
    grind

/-- A DUE station of the normal group moves to the urgent one. -/
theorem Roster.Ok.hasten (h : r.Ok) (hdue : r.run n = .due) (hnormal : r.urgent n = false) : (r.hasten n).Ok := by
  obtain ⟨hdueIff, hurgentIff, hhome, hnodup, hengagedIff, heq, hlength⟩ := h
  simp only [DueQueue.Holds] at hdueIff hhome
  refine ⟨fun st => ?_, fun st => ?_, fun p st => ?_, fun p => ?_, hengagedIff, heq, hlength⟩
  · simp only [Roster.hasten, DueQueue.Holds, Function.update_apply]
    grind
  · simp only [Roster.hasten, Function.update_apply]
    grind
  · simp only [Roster.hasten, DueQueue.Holds, Function.update_apply]
    grind
  · simp only [Roster.hasten, Function.update_apply]
    have hp := hnodup p
    have hn : n ∉ (r.due (r.home n)).urgent := by rw [← hurgentIff]; simp [hnormal]
    split
    · next heq =>
      subst heq
      grind
    · exact hp

theorem Roster.Ok.flush (h : r.Ok) : r.flush.Ok := by
  obtain ⟨hdueIff, hurgentIff, hhome, hnodup, hengagedIff, heq, hlength⟩ := h
  simp only [DueQueue.Holds] at hdueIff
  refine ⟨fun st => ?_, fun st => ?_, fun p st => ?_, fun p => ?_, fun st => ?_, heq, hlength⟩
  · simp only [Roster.flush, DueQueue.Holds, DueQueue.empty]
    grind
  · simp only [Roster.flush, DueQueue.empty]
    grind
  · simp [Roster.flush, DueQueue.Holds, DueQueue.empty]
  · simp [Roster.flush, DueQueue.empty]
  · simp only [Roster.flush]
    grind

/-- A bound context lets its station go. -/
theorem Roster.Ok.release (h : r.Ok) (hc : r.bound c = some n) : (r.release c n).Ok := by
  have hrun := h.run_of_bound hc
  have hlength := h.length_le_of_bound (r' := r.release c n) fun c' st hc' => by
    simp only [Roster.release, Function.update_apply] at hc' ⊢
    grind
  have hnot := h.not_holds (n := n) (by simp [hrun])
  obtain ⟨hdueIff, hurgentIff, hhome, hnodup, hengagedIff, heq, -⟩ := h
  simp only [DueQueue.Holds] at hdueIff hnot
  refine ⟨fun st => ?_, fun st => ?_, hhome, hnodup, fun st => ?_, fun c₁ c₂ st => ?_, hlength⟩
  · simp only [Roster.release, DueQueue.Holds, Function.update_apply]
    grind
  · simp only [Roster.release, Function.update_apply]
    grind
  · simp only [Roster.release, Function.update_apply]
    grind
  · simp only [Roster.release, Function.update_apply]
    grind

theorem DueQueue.mem_of_head {q : DueQueue} {b : Bool} (h : q.head = some (n, b)) : q.Holds n := by
  unfold DueQueue.head at h
  unfold DueQueue.Holds
  grind

/-- Without its head, a queue that holds no station twice holds the same stations but that one. -/
theorem DueQueue.removeHead_spec {q : DueQueue} {b : Bool} (h : q.head = some (n, b))
    (hq : (q.urgent ++ q.normal).Nodup) :
    (q.removeHead.urgent ++ q.removeHead.normal).Nodup ∧
      (∀ st, q.removeHead.Holds st ↔ q.Holds st ∧ st ≠ n) ∧
      ∀ st, st ∈ q.removeHead.urgent ↔ st ∈ q.urgent ∧ st ≠ n := by
  obtain ⟨urgent, normal⟩ := q
  simp only [DueQueue.head, DueQueue.Holds, DueQueue.removeHead] at *
  cases urgent with
  | cons x urgent =>
    simp at h
    grind
  | nil =>
    cases normal with
    | cons x normal =>
      simp at h
      grind
    | nil => simp at h

/-- A free context is bound to the head of a queue whose port has room for it (R77, R78). -/
theorem Roster.Ok.grant {b : Bool} (h : r.Ok) (hfree : r.bound c = none) (hhead : (r.due p).head = some (n, b))
    (hroom : (r.contextsOf p).length < 2) : (r.grant c p n).Ok := by
  obtain ⟨hqNodup, hqHolds, hqUrgent⟩ := DueQueue.removeHead_spec hhead (h.nodup p)
  have hhomeN := h.home_of_holds p n (DueQueue.mem_of_head hhead)
  have hrun : r.run n = .due := (h.due_iff n).2 (hhomeN ▸ DueQueue.mem_of_head hhead)
  have hnot := h.not_bound (n := n) (by simp [hrun])
  have hlength : ∀ q, ((r.grant c p n).contextsOf q).length ≤ 2 := by
    intro q
    by_cases hq : q = p
    · subst hq
      refine (Roster.contextsOf_length_le (cs := c :: r.contextsOf q) fun c' hc' => ?_).trans hroom
      simp only [List.mem_cons, Roster.mem_contextsOf] at hc' ⊢
      simp only [Roster.grant, Function.update_apply] at hc'
      grind
    · refine (Roster.contextsOf_length_le fun c' hc' => ?_).trans (h.length_le q)
      simp only [Roster.mem_contextsOf] at hc' ⊢
      simp only [Roster.grant, Function.update_apply] at hc'
      grind
  obtain ⟨hdueIff, hurgentIff, hhome, hnodup, hengagedIff, heq, -⟩ := h
  refine ⟨fun st => ?_, fun st => ?_, fun q st => ?_, fun q => ?_, fun st => ?_, fun c₁ c₂ st => ?_, hlength⟩
  · simp only [Roster.grant, Function.update_apply]
    grind
  · simp only [Roster.grant, Function.update_apply]
    grind
  · simp only [Roster.grant, Function.update_apply]
    grind
  · simp only [Roster.grant, Function.update_apply]
    grind
  · simp only [Roster.grant, Function.update_apply]
    grind
  · simp only [Roster.grant, Function.update_apply]
    grind

/-- A row is applied to a station that is not ENGAGED. -/
theorem Roster.Ok.applyRow (h : r.Ok) (hrun : r.run n ≠ .engaged) (row : StationRow) : (r.applyRow n row).Ok := by
  have hnot := h.not_bound hrun
  have hlength := h.length_le_of_bound (r' := r.applyRow n row) fun c' st hc' => by
    refine ⟨hc', Function.update_of_ne ?_ _ _⟩
    rintro rfl
    exact hnot c' hc'
  have hout := h.not_holds (n := n)
  obtain ⟨hdueIff, hurgentIff, hhome, hnodup, hengagedIff, heq, -⟩ := h
  simp only [DueQueue.Holds] at hdueIff hhome hout
  refine ⟨fun st => ?_, fun st => ?_, fun q st => ?_, fun q => ?_, fun st => ?_, heq, hlength⟩
  · simp only [Roster.applyRow, DueQueue.Holds, DueQueue.remove, Function.update_apply]
    grind
  · simp only [Roster.applyRow, DueQueue.remove, Function.update_apply]
    grind
  · simp only [Roster.applyRow, DueQueue.Holds, DueQueue.remove, Function.update_apply]
    grind
  · simp only [Roster.applyRow, DueQueue.remove]
    have := hnodup q
    grind
  · simp only [Roster.applyRow, Function.update_apply]
    grind

end Sys2Proof.Machine

/-! PROOFS. What an operation keeps of the roster, and the operations that leave it. -/

namespace Sys2Proof.Machine

variable {s t u : State} {r r' : Roster} {n : StationNo} {c : ContextNo} {p : Port}

/-! ### What an operation keeps -/

/-- No context is newly bound, no bound station moves to another port, and every port that serves goes on. -/
structure Roster.Shrinks (r r' : Roster) : Prop where
  bound : ∀ c st, r'.bound c = some st → r.bound c = some st ∧ r'.home st = r.home st
  serves : ∀ p, r.serves p = true → r'.serves p = true

theorem Roster.Shrinks.refl (r : Roster) : r.Shrinks r := ⟨fun _ _ h => ⟨h, rfl⟩, fun _ => id⟩

theorem Roster.Shrinks.trans {r'' : Roster} (h : r.Shrinks r') (k : r'.Shrinks r'') : r.Shrinks r'' := by
  refine ⟨fun c st hc => ?_, fun p hp => k.serves p (h.serves p hp)⟩
  obtain ⟨hc', hhome'⟩ := k.bound c st hc
  obtain ⟨hc'', hhome⟩ := h.bound c st hc'
  exact ⟨hc'', hhome'.trans hhome⟩

theorem Roster.Shrinks.serving (h : r.Shrinks r') (hs : r.Serving) : r'.Serving := by
  intro c st hc
  obtain ⟨hc', hhome⟩ := h.bound c st hc
  exact hhome ▸ h.serves _ (hs c st hc')

theorem Roster.Vacant.serving (h : r.Vacant) : r.Serving := fun c st hc => by simp [h c] at hc

/-- A pending commit goes on waiting while it is the same, and no ENGAGED station changes its run-state or its
descriptor. -/
theorem Roster.Waiting.mono (h : r.Waiting) (hcommit : r'.commit = r.commit)
    (hengaged : ∀ st, r.run st = .engaged → r'.run st = .engaged ∧ r'.format st = r.format st) : r'.Waiting := by
  intro pc hpc
  have hwaits := h pc (hcommit ▸ hpc)
  cases pc with
  | station n row => exact (hengaged n hwaits).1
  | format n row =>
    obtain ⟨st, hst, hformat⟩ := hwaits
    obtain ⟨hrun, hformat'⟩ := hengaged st hst
    exact ⟨st, hrun, hformat'.trans hformat⟩

/-- An operation that keeps a roster in order, and its pending commit waiting, and binds no context. -/
def State.Keeps (s t : State) : Prop :=
  s.roster.Ok → s.roster.Waiting → t.roster.Ok ∧ t.roster.Waiting ∧ s.roster.Shrinks t.roster

theorem State.Keeps.of_eq (h : t.roster = s.roster) : s.Keeps t := by
  intro hok hwaiting
  rw [h]
  exact ⟨hok, hwaiting, .refl _⟩

theorem State.Keeps.refl (s : State) : s.Keeps s := .of_eq rfl

theorem State.Keeps.trans (h : s.Keeps t) (k : t.Keeps u) : s.Keeps u := by
  intro hok hwaiting
  obtain ⟨hok', hwaiting', hshrinks⟩ := h hok hwaiting
  obtain ⟨hok'', hwaiting'', hshrinks'⟩ := k hok' hwaiting'
  exact ⟨hok'', hwaiting'', hshrinks.trans hshrinks'⟩

/-- The roster may be read before a change that leaves it. -/
theorem State.Keeps.after (k : u.Keeps t) (h : u.roster = s.roster) : s.Keeps t := (State.Keeps.of_eq h).trans k

/-- The roster may be read after a change that leaves it. -/
theorem State.Keeps.before (k : s.Keeps t) (h : u.roster = t.roster) : s.Keeps u := k.trans (.of_eq h)

/-- A fold of operations that each keep the roster. -/
theorem foldl_keepsRoster {β : Type} (f : State → β → State) (h : ∀ (s : State) b, s.Keeps (f s b)) (l : List β) :
    ∀ s : State, s.Keeps (l.foldl f s) := by
  induction l with
  | nil => exact fun s => .refl s
  | cons b l ih => exact fun s => (h s b).trans (ih _)

/-! ### Operations that leave the roster -/

/-- The roster reads six components of the state. -/
theorem State.roster_eq (hrows : t.tables.stations = s.tables.stations)
    (hstations : t.survey.stations = s.survey.stations) (hdue : t.survey.due = s.survey.due)
    (hcontexts : t.engine.contexts = s.engine.contexts)
    (hcommit : t.management.pendingCommit = s.management.pendingCommit) (hports : t.ports = s.ports) :
    t.roster = s.roster := by
  simp only [State.roster, State.station, State.due, State.context, State.stationRow, State.port, hrows, hstations, hdue,
    hcontexts, hcommit, hports]

/-- A change of a port that leaves whether it serves. -/
theorem modPort_roster {f : PortUnit → PortUnit} (h : ∀ u, (f u).state.serves = u.state.serves) :
    (s.modPort p f).roster = s.roster := by
  refine Roster.eq_of_fields (serves := fun q => ?_)
  rw [State.roster_serves, State.modPort_port]
  split <;> simp [h]

/-- A context that stays with its station. -/
theorem setContext_roster {d : Dialogue} (h : s.roster.bound c = some d.station) :
    (s.setContext c (some d)).roster = s.roster := by
  refine Roster.eq_of_fields (bound := fun c' => ?_)
  rw [State.roster_context, State.setContext_context]
  split
  · next hc => rw [hc, h]; rfl
  · rfl

theorem modDialogue_roster {f : Dialogue → Dialogue} (h : ∀ d, (f d).station = d.station) :
    (s.modDialogue c f).roster = s.roster := by
  refine Roster.eq_of_fields (bound := fun c' => ?_)
  rw [State.roster_context, State.modDialogue_context]
  split <;> simp [Function.comp_def, h]

/-- What may set yield-pending flags leaves the roster (R94, R95). -/
theorem State.YieldOnly.roster (h : s.YieldOnly t) : t.roster = s.roster := by
  obtain ⟨-, htables, -, -, hsurvey, hports, -, hmanagement, -⟩ := h.fields
  refine Roster.eq_of_fields (fun st => ?_) (fun st => ?_) (State.due_eq hsurvey) (fun c => ?_) (fun st => ?_)
    (fun st => ?_) (congrArg Management.pendingCommit hmanagement) fun p => ?_
  · exact congrArg StationState.run (State.station_eq hsurvey st)
  · exact congrArg StationState.urgent (State.station_eq hsurvey st)
  · rcases h.2 c with hc | hc <;> simp [hc, Function.comp_def]
  · exact congrArg StationRow.homePort (State.stationRow_eq htables st)
  · exact congrArg StationRow.descriptor (State.stationRow_eq htables st)
  · exact congrArg (fun u : PortUnit => u.state.serves) (State.port_eq hports p)

end Sys2Proof.Machine

/-! PROOFS. Due queues, slot events, rounds, key-on events and merges keep the roster. -/

namespace Sys2Proof.Machine

variable {s t u : State} {r r' : Roster} {n : StationNo} {c : ContextNo} {p : Port}

/-! ### Due queues and slot events -/

theorem modStation_roster (s : State) (n : StationNo) (f : StationState → StationState) :
    (s.modStation n f).roster = { s.roster with
      run := Function.update s.roster.run n (f (s.station n)).run
      urgent := Function.update s.roster.urgent n (f (s.station n)).urgent } := by
  refine Roster.eq_of_fields (run := fun st => ?_) (urgent := fun st => ?_)
  · simp only [State.roster_run, State.modStation_station, Function.update_apply]
    split <;> simp_all
  · simp only [State.roster_urgent, State.modStation_station, Function.update_apply]
    split <;> simp_all

theorem modDue_roster (s : State) (p : Port) (f : DueQueue → DueQueue) :
    (s.modDue p f).roster = { s.roster with due := Function.update s.roster.due p (f (s.due p)) } := by
  refine Roster.eq_of_fields (due := fun q => ?_)
  simp only [State.roster_due, State.modDue_due, Function.update_apply]
  split <;> simp_all

/-- A change of a station that leaves its run-state and its urgent flag. -/
theorem modStation_roster_of_same {f : StationState → StationState}
    (h : ∀ x, (f x).run = x.run ∧ (f x).urgent = x.urgent) : (s.modStation n f).roster = s.roster := by
  obtain ⟨hrun, hurgent⟩ := h (s.station n)
  rw [modStation_roster, hrun, hurgent]
  exact Roster.eq_of_fields (congrFun (Function.update_eq_self ..)) (congrFun (Function.update_eq_self ..))

theorem joinNormal_roster (s : State) (st : StationNo) : (joinNormal s st).roster = s.roster.join st false := by
  rw [joinNormal, (maxRunChecks_yieldOnly _ _).roster, modDue_roster, modStation_roster]
  rfl

theorem joinUrgent_roster (s : State) (st : StationNo) : (joinUrgent s st).roster = s.roster.join st true := by
  rw [joinUrgent, (maxRunChecks_yieldOnly _ _).roster, modDue_roster, modStation_roster]
  rfl

theorem moveUrgent_roster (s : State) (st : StationNo) : (moveUrgent s st).roster = s.roster.hasten st := by
  rw [moveUrgent, modDue_roster, modStation_roster]
  exact Roster.eq_of_fields (run := congrFun (Function.update_eq_self ..))

theorem flushDue_roster (s : State) : (flushDue s).roster = s.roster.flush := by
  have hstation : ∀ st, (flushDue s).station st = if (s.station st).run = .due then
      { s.station st with run := .idle, urgent := false } else s.station st := by
    intro st
    simp [flushDue, State.station]
    rfl
  refine Roster.eq_of_fields (run := fun st => ?_) (urgent := fun st => ?_) (due := fun p => ?_)
  · by_cases h : (s.station st).run = .due <;> simp [hstation, Roster.flush, h]
  · by_cases h : (s.station st).run = .due <;> simp [hstation, Roster.flush, h]
  · simp [flushDue, State.due, Roster.flush, Vector.get_eq_getElem]

theorem Roster.Shrinks.of_same (hbound : r'.bound = r.bound) (hhome : r'.home = r.home)
    (hserves : r'.serves = r.serves) : r.Shrinks r' :=
  ⟨fun _ _ hc => ⟨hbound ▸ hc, by rw [hhome]⟩, fun _ hp => hserves ▸ hp⟩

/-- A station that is IDLE joins. -/
theorem State.Keeps.of_join {urgent : Bool} (hidle : (s.station n).run = .idle)
    (h : t.roster = s.roster.join n urgent) : s.Keeps t := by
  intro hok hwaiting
  rw [h]
  refine ⟨hok.join (by simp [hidle]) (by simp [hidle]) urgent, hwaiting.mono rfl fun st hst => ⟨?_, rfl⟩,
    .of_same rfl rfl rfl⟩
  refine (Function.update_of_ne ?_ _ _).trans hst
  rintro rfl
  simp [hidle] at hst

theorem lookCheck_roster (s : State) : (lookCheck s).roster = s.roster := (lookCheck_yieldOnly s).roster

theorem makeUrgent_keeps (s : State) (st : StationNo) : s.Keeps (makeUrgent s st) := by
  unfold makeUrgent
  split
  · next hidle => exact .of_join hidle ((lookCheck_roster _).trans (joinUrgent_roster s st))
  · next hdue =>
    split
    · exact .refl s
    · next hurgent =>
      intro hok hwaiting
      rw [lookCheck_roster, moveUrgent_roster]
      exact ⟨hok.hasten hdue (Bool.eq_false_iff.2 hurgent), hwaiting.mono rfl fun _ h => ⟨h, rfl⟩,
        .of_same rfl rfl rfl⟩
  · exact .refl s

theorem urgencyRequest_keeps (s : State) (st : StationNo) : s.Keeps (urgencyRequest s st) := by
  unfold urgencyRequest
  split
  · exact makeUrgent_keeps s st
  · exact .refl s

theorem flushDue_keeps (s : State) : s.Keeps (flushDue s) := by
  intro hok hwaiting
  rw [flushDue_roster]
  refine ⟨hok.flush, hwaiting.mono rfl fun st hst => ⟨?_, rfl⟩, .of_same rfl rfl rfl⟩
  have hrun : (s.station st).run = .engaged := hst
  simp [Roster.flush, hrun]

theorem slotEvent_keeps (s : State) (st : StationNo) : s.Keeps (slotEvent s st) := by
  unfold slotEvent
  split
  · exact .refl s
  · split
    · next hidle => exact .of_join hidle ((lookCheck_roster _).trans (joinNormal_roster s st))
    all_goals exact .of_eq (modStation_roster_of_same fun _ => ⟨rfl, rfl⟩)

theorem slotEvents_keeps (s : State) : s.Keeps (slotEvents s) := by
  refine foldl_keepsRoster _ (fun t st => ?_) _ s
  split
  · exact slotEvent_keeps t st
  · exact .refl t

/-! ### Rounds and key-on events -/

theorem startRound_keeps (s : State) : s.Keeps (startRound s) :=
  (slotEvents_keeps _).after rfl

theorem endRound_keeps (s : State) : s.Keeps (endRound s) := by
  unfold endRound
  split
  · exact (startRound_keeps _).after rfl
  · exact .of_eq rfl

theorem raiseRound_keeps (s : State) : s.Keeps (raiseRound s) := by
  unfold raiseRound
  dsimp only
  split
  · exact (slotEvents_keeps _).after rfl
  · exact .of_eq rfl

theorem surveyKeyOn_keeps (s : State) : s.Keeps (surveyKeyOn s) := by
  unfold surveyKeyOn
  dsimp only
  split
  · exact (startRound_keeps _).after rfl
  · exact (startRound_keeps _).after rfl
  · exact .of_eq rfl
  · exact .of_eq rfl

theorem keyOnEvent_keeps (s : State) : s.Keeps (keyOnEvent s) :=
  ((surveyKeyOn_keeps (s.modClock _)).after rfl).before rfl

theorem keyOnAtStart_keeps (s : State) : s.Keeps (keyOnAtStart s) := by
  unfold keyOnAtStart
  split
  · exact keyOnEvent_keeps s
  · exact .refl s

/-! ### Merges -/

theorem handOff_keeps (s : State) (seq : Nat) (m : Merge) : s.Keeps (handOff s seq m) := by
  unfold handOff
  dsimp only
  split
  · exact (urgencyRequest_keeps _ _).after rfl
  · exact .of_eq rfl

theorem createEntry_keeps (s : State) (m : Merge) : s.Keeps (createEntry s m) :=
  (handOff_keeps _ _ m).after rfl

theorem evict_roster (s : State) (v : Entry) : (evict s v).roster = s.roster := by
  apply State.roster_eq <;> simp

theorem newKeyMerge_keeps (s : State) (m : Merge) : s.Keeps (newKeyMerge s m) := by
  unfold newKeyMerge
  (repeat' split)
  · exact .of_eq rfl
  · exact createEntry_keeps s m
  · exact createEntry_keeps s m
  · exact (createEntry_keeps _ m).after (evict_roster s _)
  · exact .of_eq rfl

theorem takeMerge_keeps (s : State) (m : Merge) : s.Keeps (takeMerge s m) := by
  unfold takeMerge
  dsimp only
  (repeat' split)
  · exact newKeyMerge_keeps s m
  · exact (handOff_keeps _ _ m).after rfl
  · exact .of_eq rfl

end Sys2Proof.Machine

/-! PROOFS. Rows in force and closes keep the roster. -/

namespace Sys2Proof.Machine

variable {s t u : State} {r r' : Roster} {n : StationNo} {c : ContextNo} {p : Port}

/-! ### A row in force and the pending commit -/

theorem setContext_roster_eq (s : State) (c : ContextNo) (x : Option Dialogue) : (s.setContext c x).roster =
    { s.roster with bound := Function.update s.roster.bound c (x.map Dialogue.station) } := by
  refine Roster.eq_of_fields (bound := fun c' => ?_)
  simp only [State.roster_context, State.setContext_context, Function.update_apply]
  split <;> rfl

theorem modTables_stations_roster (s : State) (n : StationNo) (row : StationRow) :
    (s.modTables fun t => { t with stations := modifyAt t.stations n fun _ => row }).roster =
      { s.roster with
        home := Function.update s.roster.home n row.homePort
        format := Function.update s.roster.format n row.descriptor } := by
  have hrow : ∀ st, (s.modTables fun t => { t with stations := modifyAt t.stations n fun _ => row }).stationRow st =
      if st = n then row else s.stationRow st := fun st => by simp [State.stationRow]
  refine Roster.eq_of_fields (home := fun st => ?_) (format := fun st => ?_)
  · simp only [State.roster_home, hrow, Function.update_apply]
    split <;> rfl
  · simp only [State.roster_format, hrow, Function.update_apply]
    split <;> rfl

/-- What a STATION row does to the roster (R57). -/
theorem applyStationRow_roster (s : State) (n : StationNo) (row : StationRow) :
    (applyStationRow s n row).roster = s.roster.applyRow n row := by
  unfold applyStationRow
  dsimp only
  set moded := (s.modTables fun t => { t with stations := modifyAt t.stations n fun _ => row }) with hmoded
  have hst : moded.station n = s.station n := rfl
  have hdue : moded.due = s.due := rfl
  by_cases hkeeps : row.enable = true ∧ row.homePort = (s.stationRow n).homePort
  · have hk : (row.enable && decide (row.homePort = (s.stationRow n).homePort)) = true := by simp [hkeeps]
    rw [hk, if_pos rfl, modStation_roster, hst, StationState.afterRow_eq, hmoded, modTables_stations_roster]
    simp [Roster.applyRow, hkeeps]
  · have hk : (row.enable && decide (row.homePort = (s.stationRow n).homePort)) = false := by
      simpa using hkeeps
    rw [hk, if_neg Bool.false_ne_true, (settleLook_yieldOnly _ _).roster, modDue_roster, modStation_roster,
      State.modStation_due, hst, hdue, StationState.afterRow_eq, hmoded, modTables_stations_roster]
    simp [Roster.applyRow, hkeeps]

theorem Roster.Ok.withCommit (h : r.Ok) (pc : Option PendingCommit) : Roster.Ok { r with commit := pc } :=
  ⟨h.due_iff, h.urgent_iff, h.home_of_holds, h.nodup, h.engaged_iff, h.eq_of_bound, h.length_le⟩

theorem Roster.waits_withCommit {pc : PendingCommit} {pc' : Option PendingCommit} :
    Roster.Waits { r with commit := pc' } pc ↔ r.Waits pc := by
  cases pc <;> rfl

/-- A row whose station is not ENGAGED, or that no ENGAGED station names, may be put in force (R158, R159). -/
theorem applyPending_keeps {pc : PendingCommit} (hfree : ¬ s.roster.Waits pc) : s.Keeps (applyPending s pc) := by
  cases pc with
  | station n row =>
    intro hok hwaiting
    have hrow : (applyPending s (.station n row)).roster = s.roster.applyRow n row := applyStationRow_roster s n row
    rw [hrow]
    refine ⟨hok.applyRow hfree row, hwaiting.mono rfl fun st hst => ?_, fun c st hc => ⟨hc, ?_⟩, fun _ => id⟩
    · have hne : st ≠ n := by
        rintro rfl
        exact hfree hst
      exact ⟨(Function.update_of_ne hne _ _).trans hst, Function.update_of_ne hne _ _⟩
    · refine Function.update_of_ne ?_ _ _
      rintro rfl
      exact hok.not_bound hfree c hc
  | format n row => exact .of_eq rfl

/-- A close leaves a pending commit that waits, and no other (R159). -/
theorem releasePending_ok (hok : s.roster.Ok) : (releasePending s).roster.Ok ∧ (releasePending s).roster.Waiting ∧
    s.roster.Shrinks (releasePending s).roster := by
  unfold releasePending
  split
  · next hnone => exact ⟨hok, fun pc hpc => by simp [hnone] at hpc, .refl _⟩
  · next pc hpc =>
    split
    · next hwaits =>
      refine ⟨hok, fun pc' hpc' => ?_, .refl _⟩
      cases hpc.symm.trans hpc'
      exact commitWaits_iff.1 hwaits
    · next hfree =>
      obtain ⟨hok', hwaiting', hshrinks⟩ := applyPending_keeps
        (s := s.modManagement fun m => { m with pendingCommit := none })
        (fun h => hfree (commitWaits_iff.2 (Roster.waits_withCommit.1 h))) (hok.withCommit none) (fun _ h => nomatch h)
      exact ⟨hok', hwaiting', hshrinks.bound, hshrinks.serves⟩

/-- A committed row is put in force, or waits for a running dialogue (R158). -/
theorem applyOrDefer_keeps (s : State) (pc : Option PendingCommit) : s.Keeps (applyOrDefer s pc).state := by
  unfold applyOrDefer
  split
  · exact .refl s
  · next pc =>
    split
    · next hwaits =>
      intro hok _
      refine ⟨hok.withCommit _, fun pc' hpc' => ?_, .of_same rfl rfl rfl⟩
      cases hpc'
      exact Roster.waits_withCommit.2 (commitWaits_iff.1 hwaits)
    · next hfree => exact applyPending_keeps fun h => hfree (commitWaits_iff.2 h)

/-! ### Closes -/

/-- The station of a close is IDLE, or stands in its queue again (R60, R97). -/
theorem recordOutcome_roster (s : State) (c : ContextNo) (d : Dialogue) (o : Closing) :
    ((recordOutcome s d o).setContext c none).roster = s.roster.release c d.station ∨
    ((recordOutcome s d o).setContext c none).roster = (s.roster.release c d.station).join d.station false := by
  have hidle : ∀ f : StationState → StationState, (∀ x, (f x).run = .idle ∧ (f x).urgent = false) →
      ((s.modStation d.station f).setContext c none).roster = s.roster.release c d.station := by
    intro f hf
    obtain ⟨hrun, hurgent⟩ := hf (s.station d.station)
    rw [setContext_roster_eq, modStation_roster, hrun, hurgent]
    rfl
  unfold recordOutcome
  cases o with
  | suspended =>
    dsimp only
    split
    · refine .inr ?_
      rw [← hidle (fun x => { x with
        lastOutcome := some .suspended, run := .idle, urgent := false, resume := d.resumePoint.or x.resume })
        fun _ => ⟨rfl, rfl⟩, setContext_roster_eq, setContext_roster_eq, joinNormal_roster]
      rfl
    · exact .inl (hidle _ (by exact fun _ => ⟨rfl, rfl⟩))
  | complete | short | abandoned | cut | portLost => exact .inl (hidle _ (by exact fun _ => ⟨rfl, rfl⟩))

theorem withdrawQuery_roster (s : State) (c : ContextNo) (d : Dialogue) :
    (withdrawQuery s c d).roster = s.roster := modPort_roster fun _ => rfl

theorem State.closing_roster (s : State) (c : ContextNo) (d : Dialogue) (o : Closing) :
    (s.closing c d o).roster = s.roster := by
  unfold State.closing
  split
  · exact withdrawQuery_roster s c d
  · exact withdrawQuery_roster s c d

theorem closeDialogue_of_context {d : Dialogue} (hd : s.context c = some d) (o : Closing) :
    closeDialogue s c o = lookCheck (releasePending ((recordOutcome (s.closing c d o) d o).setContext c none)) := by
  simp only [closeDialogue, hd]
  rfl

/-- A close keeps the roster in order, and its context is then FREE (R97). -/
theorem closeDialogue_spec (s : State) (c : ContextNo) (o : Closing) :
    s.Keeps (closeDialogue s c o) ∧ (s.roster.Ok → (closeDialogue s c o).roster.bound c = none) := by
  cases hd : s.context c with
  | none =>
    have hfree : closeDialogue s c o = s := by simp [closeDialogue, hd]
    rw [hfree]
    exact ⟨.refl s, fun _ => by simp [hd]⟩
  | some d =>
    rw [closeDialogue_of_context hd]
    set freed := (recordOutcome (s.closing c d o) d o).setContext c none with hfreed
    have hbound := State.roster_bound_of_context hd
    have hrelease : s.roster.Ok → freed.roster.Ok ∧ s.roster.Shrinks freed.roster ∧ freed.roster.bound c = none := by
      intro hok
      have hout := hok.release hbound
      have hshrinks : s.roster.Shrinks (s.roster.release c d.station) :=
        ⟨fun c' st hc' => ⟨by simp only [Roster.release, Function.update_apply] at hc'; grind, rfl⟩, fun _ => id⟩
      have hnone : (s.roster.release c d.station).bound c = none := Function.update_self ..
      have hidle : (s.roster.release c d.station).run d.station = .idle := Function.update_self ..
      rcases recordOutcome_roster (s.closing c d o) c d o with h | h <;> rw [hfreed, h, State.closing_roster]
      · exact ⟨hout, hshrinks, hnone⟩
      · exact ⟨hout.join (by simp [hidle]) (by simp [hidle]) false, hshrinks.trans (.of_same rfl rfl rfl), hnone⟩
    rw [State.Keeps, lookCheck_roster]
    constructor
    · intro hok _
      obtain ⟨hok', hshrinks, -⟩ := hrelease hok
      obtain ⟨hok'', hwaiting, hshrinks'⟩ := releasePending_ok hok'
      exact ⟨hok'', hwaiting, hshrinks.trans hshrinks'⟩
    · intro hok
      obtain ⟨hok', -, hnone⟩ := hrelease hok
      obtain ⟨-, -, hshrinks'⟩ := releasePending_ok hok'
      rw [Option.eq_none_iff_forall_ne_some]
      intro st hst
      exact absurd (hnone.symm.trans (hshrinks'.bound c st hst).1) nofun

theorem closeDialogue_keeps (s : State) (c : ContextNo) (o : Closing) : s.Keeps (closeDialogue s c o) :=
  (closeDialogue_spec s c o).1

end Sys2Proof.Machine

/-! PROOFS. Cuts, lost ports, headers, records and key-off events keep the roster. -/

namespace Sys2Proof.Machine

variable {s t u : State} {r r' : Roster} {n : StationNo} {c : ContextNo} {p : Port} {d : Dialogue}

/-! ### Closes of several dialogues -/

/-- A fold over contexts, each round of which leaves its own context with no station of a bad port, leaves none of
them with one. -/
theorem foldl_bound_of_each {f : State → ContextNo → State} {bad : Port → Prop} (hkeeps : ∀ (t : State) c, t.Keeps (f t c))
    (heach : ∀ (t : State) c, t.roster.Ok → ∀ st, (f t c).roster.bound c = some st → ¬ bad ((f t c).roster.home st))
    (l : List ContextNo) : ∀ s : State, s.roster.Ok → s.roster.Waiting →
      ∀ c ∈ l, ∀ st, (l.foldl f s).roster.bound c = some st → ¬ bad ((l.foldl f s).roster.home st) := by
  induction l with
  | nil => simp
  | cons b l ih =>
    intro s hok hwaiting c hc st hst
    obtain ⟨hok', hwaiting', -⟩ := hkeeps s b hok hwaiting
    rcases List.mem_cons.1 hc with rfl | hc
    · obtain ⟨-, -, hshrinks⟩ := foldl_keepsRoster f hkeeps l (f s c) hok' hwaiting'
      obtain ⟨hst', hhome⟩ := hshrinks.bound c st hst
      rw [List.foldl_cons, hhome]
      exact heach s c hok st hst'
    · exact ih (f s b) hok' hwaiting' c hc st hst

theorem cutAll_keeps (s : State) : s.Keeps (cutAll s) :=
  foldl_keepsRoster _ (fun t c => closeDialogue_keeps t c .cut) _ s

/-- After the cut no context is bound (R98). -/
theorem cutAll_vacant (hok : s.roster.Ok) (hwaiting : s.roster.Waiting) : (cutAll s).roster.Vacant := by
  intro c
  have h := foldl_bound_of_each (f := fun t c => closeDialogue t c .cut) (bad := fun _ => True)
    (fun t c => closeDialogue_keeps t c .cut)
    (fun t c hok st hst => absurd (((closeDialogue_spec t c .cut).2 hok).symm.trans hst) nofun)
    allContexts s hok hwaiting c (List.mem_finRange c)
  exact Option.eq_none_iff_forall_ne_some.2 fun st hst => h st hst trivial

theorem losePort_round_keeps (p : Port) (t : State) (c : ContextNo) :
    t.Keeps (if t.boundTo p c then closeDialogue t c .portLost else t) := by
  split
  · exact closeDialogue_keeps t c .portLost
  · exact .refl t

theorem losePort_keeps (s : State) (p : Port) : s.Keeps (losePort s p) :=
  foldl_keepsRoster _ (losePort_round_keeps p) _ s

theorem State.boundTo_of_bound {st : StationNo} (h : s.roster.bound c = some st) (hp : s.roster.home st = p) :
    s.boundTo p c = true := by
  obtain ⟨d, hd, rfl⟩ := State.roster_bound.1 h
  simp only [State.boundTo, hd]
  exact decide_eq_true hp

/-- After a port is lost no context is bound to a station of it (R99). -/
theorem losePort_home_ne (hok : s.roster.Ok) (hwaiting : s.roster.Waiting) {st : StationNo}
    (hst : (losePort s p).roster.bound c = some st) : (losePort s p).roster.home st ≠ p := by
  refine foldl_bound_of_each (bad := (· = p)) (losePort_round_keeps p) (fun t c hok st hst => ?_) allContexts s hok
    hwaiting c (List.mem_finRange c) st hst
  split at hst
  · exact absurd (((closeDialogue_spec t c .portLost).2 hok).symm.trans hst) nofun
  · next hnot =>
    rw [if_neg hnot]
    exact fun hp => hnot (State.boundTo_of_bound hst hp)

/-- A port that leaves the bus: the others serve as before, and its own dialogues end (R99). -/
theorem losePort_serving (hok : s.roster.Ok) (hwaiting : s.roster.Waiting)
    (hserves : ∀ q st, s.roster.bound q = some st → s.roster.home st ≠ p →
      s.roster.serves (s.roster.home st) = true) : (losePort s p).roster.Serving := by
  intro c st hc
  obtain ⟨-, -, hshrinks⟩ := losePort_keeps s p hok hwaiting
  have hne := losePort_home_ne hok hwaiting hc
  obtain ⟨hold, hhome⟩ := hshrinks.bound c st hc
  rw [hhome] at hne ⊢
  exact hshrinks.serves _ (hserves c st hold hne)

/-! ### Dialogues -/

theorem sendQuery_roster (s : State) (c : ContextNo) : (sendQuery s c).roster = s.roster := by
  unfold sendQuery
  split
  · rfl
  · next d hd =>
    exact (modPort_roster (by exact fun _ => rfl)).trans (setContext_roster (State.roster_bound_of_context hd :))

theorem retryPoint_keeps (s : State) (c : ContextNo) : s.Keeps (retryPoint s c) := by
  unfold retryPoint
  split
  · exact .refl s
  · next d hd =>
    (repeat' split)
    · exact closeDialogue_keeps s c _
    · exact closeDialogue_keeps s c _
    · exact .of_eq ((sendQuery_roster _ _).trans (setContext_roster (State.roster_bound_of_context hd :)))

theorem acceptHeader_keeps (hd : s.roster.bound c = some d.station) (k : Nat) : s.Keeps (acceptHeader s c d k) := by
  unfold acceptHeader
  dsimp only
  split
  · exact (closeDialogue_keeps _ c .complete).after (setContext_roster hd)
  · exact .of_eq (setContext_roster hd)

theorem restartPass_roster (hd : s.roster.bound c = some d.station) (k : Nat) :
    (restartPass s c d k).roster = s.roster :=
  (sendQuery_roster _ _).trans (setContext_roster (s := clearSeen s d.station) hd)

theorem takeHeader_keeps (hd : s.roster.bound c = some d.station) (k : Nat) : s.Keeps (takeHeader s c d k) := by
  unfold takeHeader
  (repeat' split)
  · exact closeDialogue_keeps s c _
  · exact acceptHeader_keeps hd k
  · exact (acceptHeader_keeps (s := clearSeen s d.station) hd k).after rfl
  · exact acceptHeader_keeps hd k
  · exact .of_eq (restartPass_roster hd k)

theorem windowBoundary_keeps (hd : s.roster.bound c = some d.station) : s.Keeps (windowBoundary s c d) := by
  unfold windowBoundary
  dsimp only
  split
  · exact (closeDialogue_keeps _ c .suspended).after (setContext_roster hd)
  · exact .of_eq ((sendQuery_roster _ _).trans (setContext_roster hd))

theorem afterAdvance_keeps (s : State) (c : ContextNo) : s.Keeps (afterAdvance s c) := by
  unfold afterAdvance
  split
  · exact .refl s
  · next d hd =>
    (repeat' split)
    · exact closeDialogue_keeps s c _
    · exact windowBoundary_keeps (State.roster_bound_of_context hd)
    · exact .refl s

theorem acceptRecord_keeps (s : State) (c : ContextNo) (d : Dialogue) (x : FaultReport) :
    s.Keeps (acceptRecord s c d x) := by
  unfold acceptRecord
  dsimp only
  refine (takeMerge_keeps s (x.merge d.station .readback)).trans ((afterAdvance_keeps _ c).after ?_)
  rw [(preemptionCheck_yieldOnly _).roster, (maxRunCheck_yieldOnly _ _).roster]
  exact modDialogue_roster fun _ => rfl

theorem takeRecord_keeps (s : State) (c : ContextNo) (d : Dialogue) (k : Nat) (x : FaultReport) :
    s.Keeps (takeRecord s c d k x) := by
  unfold takeRecord
  (repeat' split)
  · exact .refl s
  · exact acceptRecord_keeps s c d x
  · exact retryPoint_keeps s c

/-! ### Key-off events -/

theorem startGrace_keeps (s : State) : s.Keeps (startGrace s) := by
  unfold startGrace
  split
  · exact (cutAll_keeps _).after rfl
  · exact .of_eq rfl

theorem surveyKeyOff_keeps (s : State) : s.Keeps (surveyKeyOff s) := by
  rw [surveyKeyOff_eq]
  refine State.Keeps.trans ?_ (startGrace_keeps s.keyedOff)
  exact (flushDue_keeps s).before rfl

theorem keyOffEvent_keeps (s : State) : s.Keeps (keyOffEvent s) :=
  ((surveyKeyOff_keeps (s.modClock _)).after rfl).before rfl

theorem keyValue_keeps (s : State) (raw : Nat) (mask on : BitVec 32) : s.Keeps (keyValue s raw mask on) := by
  unfold keyValue applyReading
  (repeat' split)
  · exact .refl s
  · exact (keyOnEvent_keeps s).before rfl
  · exact (keyOffEvent_keeps s).before rfl
  · exact .of_eq rfl
  · exact .of_eq rfl

end Sys2Proof.Machine

/-! PROOFS. Arrivals, ports that leave the bus and grants keep the roster. -/

namespace Sys2Proof.Machine

variable {s t u : State} {r r' : Roster} {n : StationNo} {c : ContextNo} {p : Port} {d : Dialogue}

/-! ### Ports and arrivals -/

theorem PortUnit.confined_serves (x : PortUnit) : x.confined.serves = x.state.serves := by
  unfold PortUnit.confined
  cases x.state with
  | active => dsimp only; split <;> rfl
  | passive => dsimp only; split <;> rfl
  | off | joining | busOff | listen | dormant => rfl

/-- Fault confinement moves a port between ACTIVE and PASSIVE, which both serve (R120). -/
theorem changeErrors_roster {f : PortUnit → PortUnit} (h : ∀ x, (f x).state = x.state) :
    (changeErrors s p f).roster = s.roster := by
  rw [(changeErrors_yieldOnly s p f).roster]
  exact modPort_roster fun x => (PortUnit.confined_serves (f x)).trans (congrArg _ (h x))

theorem PortUnit.offerForward_state (x : PortUnit) (f : Frame) : (x.offerForward f).state = x.state := by
  unfold PortUnit.offerForward
  (repeat' split) <;> rfl

theorem forwardFrame_roster (s : State) (p : Port) (f : Frame) (route : PortSet) :
    (forwardFrame s p f route).roster = s.roster := by
  refine foldl_keeps State.roster _ (fun t q => ?_) _ s
  split
  · exact modPort_roster fun x => congrArg _ (x.offerForward_state f)
  · rfl

theorem queueOutput_roster (s : State) (p : Port) (fs : List Frame) : (queueOutput s p fs).roster = s.roster :=
  modPort_roster fun _ => rfl

theorem arrivalSeen_roster (s : State) : (arrivalSeen s).roster = s.roster := by
  apply State.roster_eq <;> simp

theorem ringStep_roster (s : State) (before : Nat) (p : Port) (x : RingFrame) :
    (ringStep s before p x).roster = s.roster := by
  apply State.roster_eq <;> simp

theorem arrivalLowersRec_roster (s : State) (p : Port) : (arrivalLowersRec s p).roster = s.roster := by
  unfold arrivalLowersRec
  split
  · exact changeErrors_roster fun _ => rfl
  · rfl

theorem countStray_roster (s : State) (p : Port) : (countStray s p).roster = s.roster := modPort_roster fun _ => rfl

theorem countMalformed_roster (s : State) (p : Port) : (countMalformed s p).roster = s.roster :=
  modPort_roster fun _ => rfl

theorem takeAnnouncement_keeps (s : State) (p : Port) (row : IdentRow) (data : List Byte) :
    s.Keeps (takeAnnouncement s p row data) := by
  unfold takeAnnouncement
  split
  · exact takeMerge_keeps s _
  · exact .of_eq (countMalformed_roster s p)

theorem giveReply_keeps (hd : s.context c = some d) (p : Port) (x : Reply) : s.Keeps (giveReply s p c d x) := by
  unfold giveReply
  split
  · exact takeHeader_keeps (State.roster_bound_of_context hd) _
  · exact takeRecord_keeps s c d _ _
  all_goals exact .of_eq (countStray_roster s p)

theorem takeReply_keeps (s : State) (p : Port) (row : IdentRow) (data : List Byte) :
    s.Keeps (takeReply s p row data) := by
  unfold takeReply
  (repeat' split)
  · exact .of_eq (countMalformed_roster s p)
  · exact .of_eq (countStray_roster s p)
  · exact .of_eq (countStray_roster s p)
  · next hd => exact giveReply_keeps hd p _
  · exact .of_eq (countStray_roster s p)

theorem takeKey_keeps (s : State) (p : Port) (row : IdentRow) (data : List Byte) : s.Keeps (takeKey s p row data) := by
  unfold takeKey
  dsimp only
  split
  · exact keyValue_keeps s _ _ _
  · exact .of_eq (countMalformed_roster s p)

theorem takeTime_roster (s : State) (p : Port) (row : IdentRow) (data : List Byte) :
    (takeTime s p row data).roster = s.roster := by
  unfold takeTime vehicleTime
  dsimp only
  (repeat' split)
  · rfl
  · rfl
  · exact countMalformed_roster s p

theorem takeManage_roster (s : State) (p : Port) (data : List Byte) : (takeManage s p data).roster = s.roster := by
  unfold takeManage takeRequest
  (repeat' split)
  · rfl
  · exact queueOutput_roster ..
  · rfl
  · exact queueOutput_roster ..
  · rfl
  · rfl

theorem handOn_keeps (s : State) (p : Port) (f : Frame) (row : IdentRow) : s.Keeps (handOn s p f row) := by
  unfold handOn
  split
  · exact .refl s
  cases row.cls with
  | pass => exact .refl s
  | announce => exact takeAnnouncement_keeps s p row f.data
  | reply => exact takeReply_keeps s p row f.data
  | key => exact takeKey_keeps s p row f.data
  | time => exact .of_eq (takeTime_roster s p row f.data)
  | manage => exact .of_eq (takeManage_roster s p f.data)

theorem takeArrival_keeps (s : State) (p : Port) (f : Frame) : s.Keeps (takeArrival s p f) := by
  unfold takeArrival
  dsimp only
  have hseen : (arrivalLowersRec (arrivalSeen s) p).roster = s.roster :=
    (arrivalLowersRec_roster _ p).trans (arrivalSeen_roster s)
  set seen := arrivalLowersRec (arrivalSeen s) p
  split
  · exact .of_eq ((forwardFrame_roster seen p f _).trans hseen)
  next row _ =>
  have hsent : (if row.cls = .manage then seen else forwardFrame seen p f row.route).roster = s.roster := by
    split
    · exact hseen
    · exact (forwardFrame_roster seen p f row.route).trans hseen
  split
  · exact ((handOn_keeps _ p f row).after hsent).before (ringStep_roster ..)
  · exact (handOn_keeps _ p f row).after hsent

/-! ### Rosters that serve -/

/-- A roster in order, whose pending commit waits and whose bound stations are served. -/
structure Roster.Sound (r : Roster) : Prop where
  ok : r.Ok
  waiting : r.Waiting
  serving : r.Serving

theorem State.Keeps.sound (h : s.Keeps t) (hs : s.roster.Sound) : t.roster.Sound := by
  obtain ⟨hok, hwaiting, hshrinks⟩ := h hs.ok hs.waiting
  exact ⟨hok, hwaiting, hshrinks.serving hs.serving⟩

theorem Roster.Sound.of_eq (hs : r.Sound) (h : r' = r) : r'.Sound := h ▸ hs

/-- A roster differs from another one at most in the ports that serve. -/
def Roster.ServesAs (r r' : Roster) : Prop := r' = { r with serves := r'.serves }

theorem Roster.ServesAs.ok (h : r.ServesAs r') (hok : r.Ok) : r'.Ok := by
  rw [h]
  exact ⟨hok.due_iff, hok.urgent_iff, hok.home_of_holds, hok.nodup, hok.engaged_iff, hok.eq_of_bound, hok.length_le⟩

theorem Roster.ServesAs.waiting (h : r.ServesAs r') (hw : r.Waiting) : r'.Waiting := by
  rw [h]
  exact hw.mono rfl fun st hst => ⟨hst, rfl⟩

theorem Roster.ServesAs.sound_of_vacant (h : r.ServesAs r') (hok : r.Ok) (hw : r.Waiting) (hv : r.Vacant) : r'.Sound :=
  ⟨h.ok hok, h.waiting hw, Roster.Vacant.serving (by rw [h]; exact hv)⟩

theorem modPort_servesAs (s : State) (p : Port) (f : PortUnit → PortUnit) :
    s.roster.ServesAs (s.modPort p f).roster := rfl

/-- A port that does not serve may come to do so (R118, R123, R124). -/
theorem modPort_sound_of_not_serving {f : PortUnit → PortUnit} (hs : s.roster.Sound)
    (hp : (s.port p).state.serves = false) : (s.modPort p f).roster.Sound := by
  refine ⟨(modPort_servesAs s p f).ok hs.ok, (modPort_servesAs s p f).waiting hs.waiting, fun c st hc => ?_⟩
  have hserves : (s.port (s.roster.home st)).state.serves = true := hs.serving c st hc
  change ((s.modPort p f).port (s.roster.home st)).state.serves = true
  rw [State.modPort_port, if_neg]
  · exact hserves
  · rintro h
    rw [h, hp] at hserves
    cases hserves

/-- A port that leaves the bus takes its dialogues with it (R99, R122, R125). -/
theorem losePort_sound (hs : s.roster.Sound) (h : s.roster.ServesAs u.roster)
    (hserves : ∀ q, q ≠ p → u.roster.serves q = s.roster.serves q) : (losePort u p).roster.Sound := by
  have hok := h.ok hs.ok
  have hwaiting := h.waiting hs.waiting
  obtain ⟨hok', hwaiting', -⟩ := losePort_keeps u p hok hwaiting
  refine ⟨hok', hwaiting', losePort_serving hok hwaiting fun c st hc hne => ?_⟩
  have hbound : u.roster.bound = s.roster.bound := by rw [h]
  have hhome : u.roster.home = s.roster.home := by rw [h]
  rw [hserves _ hne, hhome]
  exact hs.serving c st (hbound ▸ hc)

theorem pauseStream_roster (s : State) (p : Port) : (pauseStream s p).roster = s.roster := rfl

theorem dropWaiting_roster (s : State) (p : Port) : (dropWaiting s p).roster = s.roster := by
  unfold dropWaiting
  (repeat' split) <;> rfl

theorem enterBusOff_sound (hs : s.roster.Sound) (p : Port) : (enterBusOff s p).roster.Sound := by
  rw [enterBusOff, (settleLook_yieldOnly _ s).roster, pauseStream_roster]
  refine losePort_sound hs ?_ fun q hq => ?_
  · rw [dropWaiting_roster]
    exact modPort_servesAs s p _
  · rw [dropWaiting_roster, State.roster_serves, State.modPort_port, if_neg hq, State.roster_serves]

theorem applyPortRow_sound (hs : s.roster.Sound) (p : Port) (row : PortRow) :
    (applyPortRow s p row).roster.Sound := by
  unfold applyPortRow
  dsimp only
  rw [(settleLook_yieldOnly _ s).roster, pauseStream_roster]
  refine losePort_sound hs ?_ fun q hq => ?_
  · rfl
  · rw [State.roster_serves, State.modPort_port, if_neg hq]
    rfl

/-! ### Grants -/

/-- What a look has found: a FREE context, a port with room and the head of its due queue (R77). -/
theorem nextGrant_spec {g : Grant} (h : s.nextGrant = some g) : s.context g.context = none ∧
    s.eligible g.port = true ∧ (s.due g.port).head = some (g.station, g.urgent) := by
  unfold State.nextGrant at h
  split at h
  · next c p hc hp =>
    split at h
    · next st b hhead =>
      cases h
      refine ⟨?_, ?_, hhead⟩
      · simpa using List.find?_some hc
      · unfold State.grantPort at hp
        split at hp
        · next hfind =>
          cases hp
          have := List.find?_some hfind
          simp only [Bool.and_eq_true] at this
          exact this.1
        · have := List.find?_some hp
          simp only [Bool.and_eq_true] at this
          exact this.1
    · cases h
  · cases h

theorem bindContext_roster (s : State) (g : Grant) :
    (bindContext s g).roster = s.roster.grant g.context g.port g.station := by
  unfold bindContext
  dsimp only
  have hengine : ∀ (v : State) p k,
      State.roster { v with engine := { v.engine with lastGranted := p, grants := k } } = v.roster := fun _ _ _ => rfl
  rw [sendQuery_roster, setContext_roster_eq, hengine, modStation_roster, modDue_roster]
  rfl

theorem execGrant_sound (hs : s.roster.Sound) : Leads (execGrant s) fun t => t.roster.Sound := by
  unfold execGrant
  split
  · next g hg =>
    obtain ⟨hfree, helig, hhead⟩ := nextGrant_spec hg
    simp only [State.eligible, Bool.and_eq_true, decide_eq_true_eq] at helig
    obtain ⟨hserves, hroom⟩ := helig
    have habandon : (abandonSave s).roster = s.roster := by apply State.roster_eq <;> simp
    rw [leads_next, lookCheck_roster, bindContext_roster, habandon]
    have hbound : s.roster.bound g.context = none := by rw [State.roster_context, hfree]; rfl
    have hhome : s.roster.home g.station = g.port := hs.ok.home_of_holds _ _ (DueQueue.mem_of_head hhead)
    have hrun : s.roster.run g.station = .due :=
      (hs.ok.due_iff _).2 (hhome.symm ▸ DueQueue.mem_of_head hhead)
    refine ⟨hs.ok.grant hbound hhead (by rw [State.contextsOf_roster]; exact hroom),
      hs.waiting.mono rfl fun st hst => ⟨?_, rfl⟩, fun c st hc => ?_⟩
    · refine (Function.update_of_ne ?_ _ _).trans hst
      rintro rfl
      rw [hrun] at hst
      cases hst
    · simp only [Roster.grant, Function.update_apply] at hc ⊢
      split at hc
      · cases hc
        rw [hhome]
        exact hserves
      · exact hs.serving c st hc
  · exact leads_next.2 hs

end Sys2Proof.Machine

/-! PROOFS. Power, requests, transmission and streams keep the roster. -/

namespace Sys2Proof.Machine

variable {s t u : State} {r r' : Roster} {n : StationNo} {c : ContextNo} {p : Port} {d : Dialogue}

/-! ### Power -/

theorem modAllPorts_servesAs (s : State) (f : PortUnit → PortRow → PortUnit) :
    s.roster.ServesAs (modAllPorts s f).roster := by
  rw [modAllPorts_eq]
  rfl

/-- Before its key-on event, a part that is powered on has every station IDLE and no context bound (R176). -/
theorem powerOnBase_sound (s : State) : (powerOnBase s).roster.Sound := by
  have hrun : ∀ st, (powerOnBase s).roster.run st = .idle := fun st => by
    simp [powerOnBase, State.station, Survey.start, StationState.start, Vector.get_eq_getElem]
  have hurgent : ∀ st, (powerOnBase s).roster.urgent st = false := fun st => by
    simp [powerOnBase, State.station, Survey.start, StationState.start, Vector.get_eq_getElem]
  have hdue : ∀ p, (powerOnBase s).roster.due p = DueQueue.empty := fun p => by
    simp [powerOnBase, State.due, Survey.start, Vector.get_eq_getElem]
  have hbound : (powerOnBase s).roster.Vacant := fun c => by
    simp [powerOnBase, State.context, Engine.start, Vector.get_eq_getElem]
  refine ⟨⟨fun st => ?_, fun st => ?_, fun p st => ?_, fun p => ?_, fun st => ?_, fun c c' st hc => ?_, fun p => ?_⟩,
    fun _ hpc => (nomatch hpc), hbound.serving⟩
  · simp only [hrun, hdue, DueQueue.Holds, DueQueue.empty]
    simp
  · simp only [hurgent, hdue, DueQueue.empty]
    simp
  · simp only [hdue, DueQueue.Holds, DueQueue.empty]
    simp
  · simp only [hdue, DueQueue.empty]
    simp
  · simp only [hrun, hbound _]
    simp
  · rw [hbound c] at hc
    cases hc
  · refine (Roster.contextsOf_length_le (cs := []) fun c hc => ?_).trans (Nat.zero_le 2)
    obtain ⟨st, hst, -⟩ := Roster.mem_contextsOf.1 hc
    rw [hbound c] at hst
    cases hst

theorem enterSleep_sound (hs : s.roster.Sound) (hv : s.roster.Vacant) : (enterSleep s).roster.Sound := by
  have hrest : ∀ v : State, ((((finishSlots v).modSurvey fun x => { x with grace := none }).modClock fun k =>
      { k with keyLoss := none }).modRetention fun x => { x with power := .sleep, sleepTimer := .stopped }).roster =
        v.roster := fun _ => rfl
  have hslot : ∀ v : State, (v.modManagement fun m => { m with slot := .empty }).roster = v.roster := fun _ => rfl
  unfold enterSleep
  dsimp only
  rw [hrest]
  refine (flushDue_keeps _).sound ?_
  rw [hslot]
  exact (modAllPorts_servesAs s _).sound_of_vacant hs.ok hs.waiting hv

theorem wakeUp_sound (hs : s.roster.Sound) (hv : s.roster.Vacant) : (wakeUp s).roster.Sound := by
  rw [wakeUp_eq]
  exact Roster.ServesAs.sound_of_vacant (r := s.roster) rfl hs.ok hs.waiting hv

theorem checkSleep_roster (s : State) : (checkSleep s).roster = s.roster := by
  apply State.roster_eq <;> simp

/-! ### Requests -/

theorem respond_roster (s : State) (p : Port) (frames : List (List Byte)) : (respond s p frames).roster = s.roster :=
  queueOutput_roster s p _

/-- A request leaves the roster sound when its effect does. -/
theorem serve_sound {k : RequestKind} {effect : State → Port → List Byte → Answer} (hs : s.roster.Sound)
    (h : ∀ p data, (effect s p data).state.roster.Sound) : (checkSleep (serve s k effect)).roster.Sound := by
  rw [checkSleep_roster]
  unfold serve
  split
  · next p data _ =>
    dsimp only
    split
    · rw [respond_roster]
      exact h p data
    · exact hs
  · exact hs
  · exact hs

theorem needBytes_sound {k : Nat} {data : List Byte} {a : Answer} (hs : s.roster.Sound) (h : a.state.roster.Sound) :
    (needBytes k s data a).state.roster.Sound := by
  unfold needBytes
  split
  · exact hs
  · exact h

theorem stopSurvey_keeps (s : State) : s.Keeps (stopSurvey s) := by
  refine State.Keeps.trans ?_ (cutAll_keeps _)
  exact ((flushDue_keeps (stopRound s .off)).after rfl).before rfl

/-- SOFT_RESET lets every station go before it changes the ports (R164). -/
theorem softReset_sound (hs : s.roster.Sound) : (softReset s).roster.Sound := by
  have hrest : ∀ v : State, (finishSlots (emptyRings
      { v with engine := { v.engine with lastGranted := 2 } })).roster = v.roster := fun _ => rfl
  unfold softReset
  dsimp only
  rw [hrest]
  set base := ((flushDue (stopRound ((s.modManagement fun m => { m with pendingCommit := none }).modStreamer fun x =>
    { x with state := .idle }) .off)).modSurvey fun v => { v with grace := none, roundNumber := 0 }) with hbase
  have hroster : base.roster = Roster.flush { s.roster with commit := none } := flushDue_roster _
  have hok : base.roster.Ok := hroster ▸ (hs.ok.withCommit none).flush
  have hwaiting : base.roster.Waiting := fun pc hpc => by rw [hroster] at hpc; cases hpc
  obtain ⟨hok', hwaiting', -⟩ := cutAll_keeps base hok hwaiting
  exact (modAllPorts_servesAs (cutAll base) _).sound_of_vacant hok' hwaiting' (cutAll_vacant hok hwaiting)

theorem startSurvey_keeps (s : State) (mode : SurveyMode) : s.Keeps (startSurvey s mode) := by
  unfold startSurvey
  dsimp only
  split
  · exact (startRound_keeps _).after rfl
  · exact .of_eq rfl

theorem applyGeneral_keeps (s : State) (row : GeneralRow) : s.Keeps (applyGeneral s row) := by
  rw [applyGeneral_eq]
  dsimp only
  split
  · exact (keyOnEvent_keeps _).after rfl
  · exact .of_eq rfl

theorem commitRow_sound (hs : s.roster.Sound) (table row : Nat) : (commitRow s table row).state.roster.Sound := by
  have happly : ∀ {α : Type} (x : Option α) (f : α → State), (∀ a, (f a).roster.Sound) →
      (applyDecoded s x f).state.roster.Sound := by
    intro α x f hf
    cases x with
    | none => exact hs
    | some a => exact hf a
  unfold commitRow
  dsimp only
  (repeat' split)
  · exact happly _ _ fun _ => hs
  · exact hs
  · exact (applyOrDefer_keeps s _).sound hs
  · exact hs
  · exact (applyOrDefer_keeps s _).sound hs
  · exact hs
  · exact happly _ _ fun r => applyPortRow_sound hs _ r
  · exact hs
  · exact happly _ _ fun r => (applyGeneral_keeps s r).sound hs
  · exact hs
  · exact hs

theorem serveCommit_sound (hs : s.roster.Sound) (p : Port) (data : List Byte) :
    (serveCommit s p data).state.roster.Sound := by
  refine needBytes_sound hs ?_
  split
  · exact hs
  · exact commitRow_sound hs _ _

theorem removeEntries_roster (s : State) (q : Entry → Bool) : (removeEntries s q).roster = s.roster := by
  apply State.roster_eq <;> simp

theorem clearStation_roster (s : State) (st : StationNo) : (clearStation s st).roster = s.roster :=
  (modStation_roster_of_same (by exact fun _ => ⟨rfl, rfl⟩)).trans (removeEntries_roster s fun e => e.station = st)

theorem clearStore_roster (s : State) : (clearStore s).roster = s.roster := by
  rw [← removeEntries_roster s fun _ => true]
  have hstation : ∀ st, (clearStore s).station st =
      { (removeEntries s fun _ => true).station st with resume := none } := fun st => by
    simp [clearStore, State.station]
  refine Roster.eq_of_fields (run := fun st => ?_) (urgent := fun st => ?_)
  · rw [State.roster_run, hstation]
    rfl
  · rw [State.roster_urgent, hstation]
    rfl

theorem freeSlot_roster (s : State) (i : SlotNo) : (freeSlot s i).roster = s.roster := by
  apply State.roster_eq <;> simp

theorem serveRecover_sound (hs : s.roster.Sound) (p : Port) (data : List Byte) :
    (serveRecover s p data).state.roster.Sound := by
  refine needBytes_sound hs ?_
  split
  · exact hs
  · split
    · next hbusOff => exact modPort_sound_of_not_serving hs (by rw [hbusOff]; rfl)
    · exact hs

theorem serveReadNow_sound (hs : s.roster.Sound) (p : Port) (data : List Byte) :
    (serveReadNow s p data).state.roster.Sound := by
  refine needBytes_sound hs ?_
  (repeat' split)
  · exact hs
  · exact hs
  · exact hs
  · exact (makeUrgent_keeps s _).sound hs

/-! ### Transmission and streams -/

theorem querySent_roster (s : State) (q : Query) : (querySent s q).roster = s.roster := by
  unfold querySent
  (repeat' split)
  · rfl
  · next hd _ => exact setContext_roster (State.roster_bound_of_context hd :)
  · rfl

theorem frameSent_roster (s : State) (p : Port) : (frameSent s p).roster = s.roster := by
  have htell : ∀ (v : State) x, (tellSource v x).roster = v.roster := by
    intro v x
    cases x with
    | query q => exact querySent_roster v q
    | forwarded f => rfl
    | management f => rfl
  unfold frameSent
  (repeat' split)
  · rfl
  · exact (htell _ _).trans (changeErrors_roster (by exact fun _ => rfl))
  · rfl

theorem frameFailed_sound (hs : s.roster.Sound) (p : Port) : (frameFailed s p).roster.Sound := by
  unfold frameFailed
  (repeat' split)
  · exact hs
  · refine enterBusOff_sound (hs.of_eq ?_) p
    exact modPort_roster fun _ => rfl
  · refine hs.of_eq ?_
    exact changeErrors_roster fun _ => rfl
  · exact hs

theorem PortUnit.choose_state (x : PortUnit) (row : PortRow) : (x.choose row).state = x.state := by
  unfold PortUnit.choose
  (repeat' split)
  · next src _ => cases src <;> (unfold PortUnit.place; dsimp only; split) <;> rfl
  · rfl
  · rfl

theorem queueHeld_roster (s : State) : (queueHeld s).roster = s.roster := by
  unfold queueHeld
  (repeat' split)
  · exact queueOutput_roster s _ _
  · exact queueOutput_roster s _ _
  all_goals rfl

theorem lookExport_roster (s : State) : (lookExport s).roster = s.roster := by
  unfold lookExport exportEntry endExport
  dsimp only
  (repeat' split)
  · exact queueOutput_roster s _ _
  · exact queueOutput_roster s _ _
  · exact queueOutput_roster s _ _
  all_goals rfl

theorem lookSnapshot_roster (s : State) : (lookSnapshot s).roster = s.roster := by
  have hend : ∀ b, (endSnapshot s b).roster = s.roster := by
    intro b
    cases b <;> exact queueOutput_roster s _ _
  unfold lookSnapshot snapshotFrame
  dsimp only
  (repeat' split)
  · exact hend false
  · rfl
  · exact hend true
  · rfl
  · exact queueOutput_roster s _ _
  all_goals rfl

theorem queueNotice_roster (s : State) : (queueNotice s).roster = s.roster := by
  unfold queueNotice
  split
  · exact queueOutput_roster s _ _
  · rfl

theorem passMillisecond_roster (s : State) : (passMillisecond s).roster = s.roster := by
  unfold passMillisecond
  dsimp only
  split
  · rfl
  · refine Roster.eq_of_fields (bound := fun c => ?_) (serves := fun p => ?_)
    · simp [runTimers, State.context, Function.comp_def]
    · simp only [runTimers, State.roster_serves, State.port, mapAll_get]
      split <;> rfl

end Sys2Proof.Machine

/-! PROOFS. Every command keeps the roster: O8. -/

namespace Sys2Proof.Machine

variable {s t u : State} {p : Port}

/-! ### Every command -/

/-- A part that saves or sleeps has no context bound (R172). -/
def State.RestsVacant (s : State) : Prop := s.retention.power ≠ .run → s.roster.Vacant

theorem State.Inv.sound (hs : s.Inv) : s.roster.Sound :=
  ⟨roster_ok_iff.2 ⟨hs.due, hs.bindings⟩, pendingOk_iff.1 hs.waiting, portsServeDialogues_iff.1 hs.serving⟩

theorem State.Inv.restsVacant (hs : s.Inv) : s.RestsVacant := by
  intro hpower c
  have hquiet : s.Quiet := by
    obtain ⟨hsaving, hsleep, -⟩ := hs.sleep
    cases h : s.retention.power with
    | run => exact absurd h hpower
    | saving => exact hsaving h
    | sleep => exact (hsleep h).1
  obtain ⟨-, hfree, -⟩ := hquiet
  have hc := List.all_eq_true.1 hfree c (List.mem_finRange c)
  simpa using hc

/-- Every command keeps the roster sound. -/
theorem exec_sound (i : Instr) (hs : s.roster.Sound) (hrests : s.RestsVacant) :
    Leads (exec i s) fun t => t.roster.Sound := by
  have hsame : ∀ {t : State}, t.roster = s.roster → Leads (.next t) fun t => t.roster.Sound :=
    fun h => leads_next.2 (hs.of_eq h)
  have hkept : ∀ {t : State}, s.Keeps t → Leads (.next t) fun t => t.roster.Sound :=
    fun h => leads_next.2 (h.sound hs)
  have hchecked : ∀ {t : State}, t.roster.Sound → Leads (.next (checkSleep t)) fun t => t.roster.Sound :=
    fun h => leads_next.2 (h.of_eq (checkSleep_roster _))
  cases i with
  | powerOn => exact leads_next.2 ((keyOnAtStart_keeps _).sound (powerOnBase_sound s))
  | arrival p f =>
    simp only [exec, execArrival]
    (repeat' split)
    · exact hkept (takeArrival_keeps s p f)
    · exact hsame rfl
    · exact leads_refused
  | receiveError p =>
    simp only [exec, execReceiveError]
    split
    · refine hsame ?_
      exact changeErrors_roster fun _ => rfl
    · exact hsame rfl
  | transmissionSent p => exact hsame (frameSent_roster s p)
  | transmissionFailed p => exact hchecked (frameFailed_sound hs p)
  | lostArbitration => exact hsame rfl
  | busIdle p =>
    simp only [exec, execBusIdle]
    split
    · next hjoining =>
      have hmoved := modPort_sound_of_not_serving
        (f := fun u => { u with state := u.busIdleState (s.portRow p) }) hs (by rw [hjoining]; rfl)
      split
      · exact leads_next.2 (hmoved.of_eq ((lookCheck_roster _).trans rfl))
      · exact leads_next.2 hmoved
    · exact hsame rfl
  | recoveryEvent p =>
    simp only [exec, execRecoveryEvent]
    split
    · next h => exact leads_next.2 (modPort_sound_of_not_serving hs (by rw [h.1]; rfl))
    · exact hsame rfl
  | transmitChoice p => exact hsame (modPort_roster fun x => congrArg _ (x.choose_state _))
  | guardTimerExpiry p =>
    refine hsame (modPort_roster fun x => ?_)
    split <;> rfl
  | grant => exact execGrant_sound hs
  | waitTimerExpiry c =>
    simp only [exec, execWaitTimerExpiry]
    (repeat' split)
    · exact hchecked ((retryPoint_keeps s c).sound hs)
    · exact hsame rfl
    · exact hsame rfl
  | keyLossTimerExpiry =>
    simp only [exec, execKeyLossTimerExpiry]
    (repeat' split)
    · exact hsame rfl
    · exact hkept ((keyOffEvent_keeps _).after rfl)
    · exact hsame rfl
  | roundTick =>
    simp only [exec, execRoundTick]
    (repeat' split)
    · exact hkept ((endRound_keeps s).trans (raiseRound_keeps _))
    · exact hkept (endRound_keeps s)
    · exact hkept (raiseRound_keeps s)
    · exact hsame rfl
  | roundEnd =>
    simp only [exec, execRoundEnd]
    split
    · exact hkept (endRound_keeps s)
    · exact hsame rfl
  | keyOffGraceExpiry =>
    simp only [exec, execKeyOffGraceExpiry]
    split
    · exact hchecked (((cutAll_keeps _).after rfl).sound hs)
    · exact hsame rfl
  | captureTrigger k =>
    simp only [exec, execCaptureTrigger]
    (repeat' split)
    · exact hsame rfl
    · refine hsame ?_
      apply State.roster_eq <;> simp
    · exact hsame rfl
  | sleepDelayExpiry =>
    simp only [exec, execSleepDelayExpiry]
    split
    · exact hchecked hs
    · exact hsame rfl
    · exact hsame rfl
  | saveComplete =>
    simp only [exec, execSaveComplete]
    split
    · next hsaving => exact leads_next.2 (enterSleep_sound hs (hrests (by simp [hsaving])))
    · exact hsame rfl
  | wake p =>
    simp only [exec, execWake]
    split
    · next h =>
      exact leads_next.2 ((keyOnAtStart_keeps _).sound (wakeUp_sound hs (hrests (by simp [h.1]))))
    · exact hsame rfl
  | internalTick | holdTimerExpiry | postWindowExpiry | noticeIntervalExpiry => exact hsame rfl
  | queueHeldResponse => exact hsame (queueHeld_roster s)
  | exportLook => exact hchecked (hs.of_eq (lookExport_roster s))
  | snapshotLook => exact hchecked (hs.of_eq (lookSnapshot_roster s))
  | queueNotice => exact hsame (queueNotice_roster s)
  | commit => exact leads_next.2 (serve_sound hs (serveCommit_sound hs))
  | softReset => exact leads_next.2 (serve_sound hs fun _ _ => softReset_sound hs)
  | surveyStop => exact leads_next.2 (serve_sound hs fun _ _ => (stopSurvey_keeps s).sound hs)
  | recover => exact leads_next.2 (serve_sound hs (serveRecover_sound hs))
  | readNow => exact leads_next.2 (serve_sound hs (serveReadNow_sound hs))
  | surveyStart =>
    refine leads_next.2 (serve_sound hs fun p data => needBytes_sound hs ?_)
    split
    · exact (startSurvey_keeps s _).sound hs
    · exact hs
  | stationStatus =>
    refine leads_next.2 (serve_sound hs fun p data => needBytes_sound hs ?_)
    split
    · refine hs.of_eq ?_
      exact modStation_roster_of_same fun _ => ⟨rfl, rfl⟩
    · exact hs
  | clear =>
    refine leads_next.2 (serve_sound hs fun p data => needBytes_sound hs ?_)
    split
    · exact hs.of_eq (clearStation_roster s _)
    · exact hs
  | clearAll => exact leads_next.2 (serve_sound hs fun _ _ => hs.of_eq (clearStore_roster s))
  | release =>
    refine leads_next.2 (serve_sound hs fun p data => needBytes_sound hs ?_)
    split
    · exact hs.of_eq (freeSlot_roster s _)
    · exact hs
  | unknownRequest | status | portStatus | readRow | readEntry | stage | setClock | exportStart | exportStop | snapshot
  | notices =>
    refine leads_next.2 (serve_sound hs fun p data => ?_)
    simp only [serveUnknown, serveStatus, servePortStatus, serveReadRow, serveReadEntry, serveStage, serveSetClock,
      serveExport, serveExportStop, serveSnapshot, startSnapshot, serveNotices, needBytes, okAnswer, plainAnswer]
    (repeat' split) <;> exact hs

/-- Settles O8: each command keeps the roster in order and its pending commit waiting, and binds a context at a
grant only, to a port that serves. -/
theorem stepKeepsBindings : Obligations.StepKeepsBindings := by
  intro s t hs ht
  have hsound : t.roster.Sound := by
    rcases step_cases ht with ⟨c, rest, -, hc⟩ | ⟨-, c, u, hu, hc⟩ | ⟨-, -, rfl⟩
    · exact exec_sound c (s := { s with pending := rest }) hs.sound hs.restsVacant t hc
    · rcases (idleChoice_cases hu).2 with rfl | rfl
      · exact exec_sound c hs.sound hs.restsVacant t hc
      · exact exec_sound c (s := s.choose) hs.sound hs.restsVacant t hc
    · exact hs.sound.of_eq (passMillisecond_roster s)
  obtain ⟨hdue, hbindings⟩ := roster_ok_iff.1 hsound.ok
  exact ⟨hdue, hbindings, portsServeDialogues_iff.2 hsound.serving, pendingOk_iff.2 hsound.waiting⟩

end Sys2Proof.Machine

/-! PROOFS. A close and the pending commit: O40. -/

namespace Sys2Proof.Machine

variable {s : State} {c : ContextNo} {d : Dialogue} {o : Closing} {n : StationNo} {row : StationRow}

/-! ### A STATION row in force -/

/-- The row lets a DUE station stand where it does: it is enabled and names the same home port (R57). -/
abbrev State.KeptBy (s : State) (n : StationNo) (row : StationRow) : Prop :=
  row.enable = true ∧ row.homePort = (s.stationRow n).homePort

theorem applyStationRow_tables (s : State) (n : StationNo) (row : StationRow) :
    (applyStationRow s n row).tables = { s.tables with stations := s.tables.stations.set n.val row n.isLt } := by
  rw [applyStationRow_eq]
  split
  · rfl
  · rw [(settleLook_frame _ _).2.1]
    rfl

/-- What a STATION row does to its station and to the queue the station may leave (R57). -/
theorem applyStationRow_survey (s : State) (n : StationNo) (row : StationRow) :
    (∀ x, (applyStationRow s n row).station x = if x = n then (s.station x).afterRow (decide (s.KeptBy n row))
      else s.station x) ∧
    ∀ p, (applyStationRow s n row).due p = if ¬ s.KeptBy n row ∧ p = (s.stationRow n).homePort then
      (s.due p).remove n else s.due p := by
  have hkept : (row.enable && decide (row.homePort = (s.stationRow n).homePort)) = decide (s.KeptBy n row) := by
    simp [Bool.decide_and]
  unfold applyStationRow
  dsimp only
  rw [hkept]
  by_cases hkeeps : s.KeptBy n row
  · rw [if_pos (decide_eq_true hkeeps)]
    exact ⟨fun x => State.modStation_station .., fun p => (if_neg fun h => h.1 hkeeps).symm⟩
  · rw [if_neg (by simpa using hkeeps)]
    refine ⟨fun x => ?_, fun p => ?_⟩
    · rw [State.station_eq (settleLook_survey ..), State.modDue_station]
      exact State.modStation_station ..
    · rw [State.due_eq (settleLook_survey ..), State.modDue_due]
      simp only [hkeeps, not_false_eq_true, true_and]
      rfl

/-- A station that does not stand in a queue is not missed there. -/
theorem DueQueue.remove_of_not_holds {q : DueQueue} (h : ¬ q.Holds n) : q.remove n = q := by
  simp only [DueQueue.Holds, not_or] at h
  obtain ⟨hurgent, hnormal⟩ := h
  have hfilter : ∀ l : List StationNo, n ∉ l → l.filter (fun x => x ≠ n) = l := fun l hl =>
    List.filter_eq_self.2 fun x hx => decide_eq_true fun hxn => hl (hxn ▸ hx)
  rw [DueQueue.remove, hfilter _ hurgent, hfilter _ hnormal]

/-- A station that has just joined a queue leaves it as it was. -/
theorem DueQueue.remove_of_joined {q : DueQueue} (h : ¬ q.Holds n) :
    DueQueue.remove { q with normal := q.normal ++ [n] } n = q := by
  conv_rhs => rw [← q.remove_of_not_holds h]
  simp [DueQueue.remove]

/-! ### A close up to the pending commit -/

/-- The state in which a close comes to the pending commit: the outcome recorded and the context FREE (R97). -/
def State.released (s : State) (c : ContextNo) (d : Dialogue) (o : Closing) : State :=
  (recordOutcome (s.closing c d o) d o).setContext c none

theorem closeDialogue_eq_released (hd : s.context c = some d) (o : Closing) :
    closeDialogue s c o = lookCheck (releasePending (s.released c d o)) := closeDialogue_of_context hd o

theorem State.released_tables (s : State) (c : ContextNo) (d : Dialogue) (o : Closing) :
    (s.released c d o).tables = s.tables := by
  obtain ⟨htables, -⟩ := s.closing_frame c d o
  obtain ⟨-, rtables, -⟩ := recordOutcome_frame (s.closing c d o) d o
  exact rtables.trans htables

theorem State.released_management (s : State) (c : ContextNo) (d : Dialogue) (o : Closing) :
    (s.released c d o).management = s.management := by
  obtain ⟨-, -, -, -, -, hmanagement, -⟩ := s.closing_frame c d o
  exact (recordOutcome_management _ _ _).trans hmanagement

/-- The station of a released dialogue rejoins its queue after SUSPENDED with the key ON (R60). -/
abbrev State.Rejoins (s : State) (o : Closing) : Prop := o = .suspended ∧ s.clock.key = .on

theorem State.released_station (s : State) (c : ContextNo) (d : Dialogue) (o : Closing) :
    let x := (s.released c d o).station d.station
    x.lastOutcome = some o ∧ x.urgent = false ∧ x.run = (if s.Rejoins o then .due else .idle) ∧
      x.lastComplete = if o = .complete then some s.clock.c else (s.station d.station).lastComplete := by
  obtain ⟨-, hclock, hsurvey, -⟩ := s.closing_frame c d o
  dsimp only
  rw [State.released, State.setContext_station, recordOutcome_station, hclock, State.station_eq hsurvey]
  exact ⟨rfl, rfl, rfl, rfl⟩

theorem State.released_station_of_ne {x : StationNo} (hx : x ≠ d.station) :
    (s.released c d o).station x = s.station x := by
  obtain ⟨-, -, hsurvey, -⟩ := s.closing_frame c d o
  rw [State.released, State.setContext_station, recordOutcome_station_of_ne hx, State.station_eq hsurvey]

theorem State.released_due (s : State) (c : ContextNo) (d : Dialogue) (o : Closing) (p : Port) :
    (s.released c d o).due p = if s.Rejoins o ∧ p = s.dialoguePort d then
      { s.due p with normal := (s.due p).normal ++ [d.station] } else s.due p := by
  obtain ⟨htables, hclock, hsurvey, -⟩ := s.closing_frame c d o
  rw [State.released, State.setContext_due, recordOutcome_due, hclock, State.due_eq hsurvey, State.dialoguePort,
    State.stationRow_eq htables]
  rfl

/-! ### The pending commit at a close -/

/-- The same without a pending commit (R159). -/
abbrev State.uncommitted (s : State) : State := s.modManagement fun m => { m with pendingCommit := none }

theorem releasePending_of_waits {pc : PendingCommit} (hpc : s.management.pendingCommit = some pc)
    (hwaits : s.commitWaits pc = true) : releasePending s = s := by
  simp only [releasePending, hpc, hwaits, if_true]

theorem releasePending_of_free {pc : PendingCommit} (hpc : s.management.pendingCommit = some pc)
    (hfree : s.commitWaits pc = false) :
    releasePending s = applyPending s.uncommitted pc := by
  simp only [releasePending, hpc, hfree, Bool.false_eq_true, if_false]

theorem State.released_waits_station (s : State) (c : ContextNo) (d : Dialogue) (o : Closing) (row : StationRow) :
    (s.released c d o).commitWaits (.station d.station row) = false := by
  obtain ⟨-, -, hrun, -⟩ := s.released_station c d o
  refine decide_eq_false ?_
  rw [hrun]
  split <;> simp

/-- A bound station does not stand in a due queue (R58). -/
theorem State.Inv.not_holds_of_bound (hs : s.Inv) (hd : s.context c = some d) (p : Port) :
    ¬ (s.due p).Holds d.station := by
  have hrun := hs.sound.ok.run_of_bound (State.roster_bound_of_context hd)
  exact hs.sound.ok.not_holds (by rw [hrun]; nofun) p

/-- The state after a close that puts the pending row of its own station in force (R57, R159). -/
theorem closeDialogue_of_own_row (hd : s.context c = some d)
    (hp : s.management.pendingCommit = some (.station d.station row)) :
    closeDialogue s c o = lookCheck (applyStationRow (s.released c d o).uncommitted d.station row) := by
  rw [closeDialogue_eq_released hd, releasePending_of_free (by rw [State.released_management, hp])
    (s.released_waits_station c d o row)]
  rfl

end Sys2Proof.Machine

/-! ### The statement about the pending row -/

namespace Sys2Proof.Machine

variable {s : State} {c : ContextNo} {d : Dialogue} {o : Closing} {row : StationRow}

/-- Such a row lets its station stand in its queue when it is enabled and names the port of the dialogue. -/
theorem State.released_keptBy : (s.released c d o).uncommitted.KeptBy d.station row ↔
    row.enable = true ∧ row.homePort = s.dialoguePort d := by
  have hrow := State.stationRow_eq (s.released_tables c d o) d.station
  exact and_congr_right fun _ => iff_of_eq (congrArg (row.homePort = StationRow.homePort ·) hrow)

theorem closeDialogue_own_station (hd : s.context c = some d)
    (hp : s.management.pendingCommit = some (.station d.station row)) :
    let stays := o = .suspended ∧ s.clock.key = .on ∧ row.enable = true ∧ row.homePort = s.dialoguePort d
    (closeDialogue s c o).station d.station = { s.station d.station with
      lastOutcome := some o, run := if stays then .due else .idle, urgent := false
      resume := none, failures := 0, lapped := false
      lastComplete := if o = .complete then some s.clock.c else (s.station d.station).lastComplete } := by
  dsimp only
  obtain ⟨hlast, hurgent, hrun, hcomplete⟩ := s.released_station c d o
  obtain ⟨hstation, -⟩ := applyStationRow_survey (s.released c d o).uncommitted d.station row
  have hkept := State.released_keptBy (s := s) (c := c) (d := d) (o := o) (row := row)
  rw [closeDialogue_of_own_row hd hp, State.station_eq (lookCheck_survey _), hstation, if_pos rfl,
    StationState.afterRow_eq, State.modManagement_station]
  generalize (s.released c d o).station d.station = x at hlast hurgent hrun hcomplete
  rw [hlast, hurgent, hrun, hcomplete]
  by_cases hstand : row.enable = true ∧ row.homePort = s.dialoguePort d
  · rw [decide_eq_true (hkept.2 hstand)]
    simp [hstand]
  · rw [decide_eq_false (mt hkept.1 hstand)]
    have hstays : ¬ (o = .suspended ∧ s.clock.key = .on ∧ row.enable = true ∧ row.homePort = s.dialoguePort d) :=
      fun h => hstand h.2.2
    rw [if_neg hstays]
    by_cases hrejoins : s.Rejoins o <;> simp [hrejoins]

theorem closeDialogue_own_due (hs : s.Inv) (hd : s.context c = some d)
    (hp : s.management.pendingCommit = some (.station d.station row)) (p : Port) :
    let stays := o = .suspended ∧ s.clock.key = .on ∧ row.enable = true ∧ row.homePort = s.dialoguePort d
    (closeDialogue s c o).due p = if stays ∧ p = s.dialoguePort d then
      { s.due p with normal := (s.due p).normal ++ [d.station] } else s.due p := by
  dsimp only
  obtain ⟨-, hdue⟩ := applyStationRow_survey (s.released c d o).uncommitted d.station row
  have hkept := State.released_keptBy (s := s) (c := c) (d := d) (o := o) (row := row)
  have hout := hs.not_holds_of_bound hd p
  have hhome : ((s.released c d o).uncommitted.stationRow d.station).homePort = s.dialoguePort d :=
    congrArg StationRow.homePort (State.stationRow_eq (s.released_tables c d o) d.station)
  rw [closeDialogue_of_own_row hd hp, State.due_eq (lookCheck_survey _), hdue, State.modManagement_due, State.released_due]
  by_cases hport : p = s.dialoguePort d
  · by_cases hstand : row.enable = true ∧ row.homePort = s.dialoguePort d
    · rw [if_neg fun h => h.1 (hkept.2 hstand)]
      simp [hport, hstand]
    · have hstays : ¬ ((o = .suspended ∧ s.clock.key = .on ∧ row.enable = true ∧ row.homePort = s.dialoguePort d) ∧
          p = s.dialoguePort d) := fun h => hstand h.1.2.2
      rw [if_pos ⟨mt hkept.1 hstand, hport.trans hhome.symm⟩, if_neg hstays]
      split
      · exact DueQueue.remove_of_joined hout
      · exact DueQueue.remove_of_not_holds hout
  · rw [if_neg fun h => hport (h.2.trans hhome), if_neg fun h => hport h.2, if_neg fun h => hport h.2]

theorem closeDialogue_own_tables (hd : s.context c = some d)
    (hp : s.management.pendingCommit = some (.station d.station row)) : (closeDialogue s c o).tables = { s.tables with
      stations := s.tables.stations.set d.station.val row d.station.isLt } := by
  obtain ⟨-, htables, -⟩ := lookCheck_frame (applyStationRow (s.released c d o).uncommitted d.station row)
  rw [closeDialogue_of_own_row hd hp, htables, applyStationRow_tables, State.modManagement_tables,
    State.released_tables]

/-- A pending row that still waits after the close stays. -/
theorem closeDialogue_of_waits {pc : PendingCommit} (hd : s.context c = some d)
    (hp : s.management.pendingCommit = some pc) (hwaits : (s.released c d o).commitWaits pc = true) :
    (closeDialogue s c o).management.pendingCommit = some pc ∧ (closeDialogue s c o).tables = s.tables := by
  have hpc : (s.released c d o).management.pendingCommit = some pc := by rw [State.released_management, hp]
  obtain ⟨-, htables, -, -, -, -, -, hmanagement, -⟩ := lookCheck_frame (s.released c d o)
  rw [closeDialogue_eq_released hd, releasePending_of_waits hpc hwaits, hmanagement, htables]
  exact ⟨hpc, s.released_tables c d o⟩

/-- After the release, a descriptor is in use when another dialogue's station names it (R104). -/
theorem State.released_formatInUse (hs : s.Inv) (hd : s.context c = some d) {k : DescriptorNo} :
    (s.released c d o).formatInUse k = true ↔
      ∃ c' d', c' ≠ c ∧ s.context c' = some d' ∧ (s.stationRow d'.station).descriptor = k := by
  have hok := hs.sound.ok
  have hbound := State.roster_bound_of_context hd
  obtain ⟨-, -, hrun, -⟩ := s.released_station c d o
  have hself : ((s.released c d o).station d.station).run ≠ .engaged := by
    rw [hrun]
    split <;> simp
  rw [formatInUse_iff]
  constructor
  · rintro ⟨st, hst, hk⟩
    have hne : st ≠ d.station := by
      rintro rfl
      exact hself hst
    rw [State.released_station_of_ne hne] at hst
    rw [State.stationRow_eq (s.released_tables c d o)] at hk
    obtain ⟨c', hc'⟩ := (hok.engaged_iff st).1 hst
    obtain ⟨d', hd', rfl⟩ := State.roster_bound.1 hc'
    refine ⟨c', d', ?_, hd', hk⟩
    rintro rfl
    cases hd.symm.trans hd'
    exact hne rfl
  · rintro ⟨c', d', hc', hd', hk⟩
    have hbound' := State.roster_bound_of_context hd'
    have hne : d'.station ≠ d.station := fun h => hc' (hok.eq_of_bound c' c d.station (h ▸ hbound') hbound)
    refine ⟨d'.station, ?_, ?_⟩
    · rw [State.released_station_of_ne hne]
      exact hok.run_of_bound hbound'
    · rw [State.stationRow_eq (s.released_tables c d o)]
      exact hk

/-- Settles O40: a close puts the pending row in force exactly when the released state no longer keeps it waiting. -/
theorem closeReleasesThePendingRow : Obligations.CloseReleasesThePendingRow := by
  intro s c o d hs hd
  refine ⟨fun row hp => ?_, fun st row hst hp hrun => ?_, fun k row hp => ⟨fun hothers => ?_, fun hnone => ?_⟩⟩
  · have hstation := closeDialogue_own_station (o := o) hd hp
    have htables := closeDialogue_own_tables (o := o) hd hp
    have hfree : (closeDialogue s c o).context c = none :=
      Option.map_eq_none_iff.1 ((closeDialogue_spec s c o).2 hs.sound.ok)
    have hrow : ∀ st, (closeDialogue s c o).stationRow st = if st = d.station then row else s.stationRow st := by
      intro st
      rw [State.stationRow, htables]
      exact modifyAt_get s.tables.stations d.station st fun _ => row
    refine ⟨hfree, hstation, fun st hne => ?_, closeDialogue_own_due hs hd hp, htables, ?_,
      (hrow d.station).trans (if_pos rfl), fun st hne => (hrow st).trans (if_neg hne), ?_, ?_, ?_, ?_⟩
    · obtain ⟨hothers, -⟩ := applyStationRow_survey (s.released c d o).uncommitted d.station row
      rw [closeDialogue_of_own_row hd hp, State.station_eq (lookCheck_survey _), hothers, if_neg hne]
      exact State.released_station_of_ne hne
    · obtain ⟨-, -, -, -, -, -, -, hmanagement, -⟩ :=
        lookCheck_frame (applyStationRow (s.released c d o).uncommitted d.station row)
      rw [closeDialogue_of_own_row hd hp, hmanagement]
      simp
    all_goals rw [hstation]
  · refine closeDialogue_of_waits hd hp (decide_eq_true ?_)
    rw [State.released_station_of_ne hst]
    exact hrun
  · exact closeDialogue_of_waits hd hp ((State.released_formatInUse hs hd).2 hothers)
  · have hfree : (s.released c d o).commitWaits (.format k row) = false :=
      Bool.eq_false_iff.2 (mt (State.released_formatInUse hs hd).1 hnone)
    have hpc : (s.released c d o).management.pendingCommit = some (.format k row) := by
      rw [State.released_management, hp]
    obtain ⟨-, htables, -, -, -, -, -, hmanagement, -⟩ :=
      lookCheck_frame (applyFormat (s.released c d o).uncommitted k row)
    rw [closeDialogue_eq_released hd, releasePending_of_free hpc hfree]
    simp only [applyPending]
    refine ⟨by rw [hmanagement]; rfl, ?_⟩
    rw [State.format_eq htables]
    exact (modifyAt_get _ k k fun _ => row).trans (if_pos rfl)

end Sys2Proof.Machine

/-! PROOFS. Rounds and slot events: O44. -/

namespace Sys2Proof.Machine

variable {s t u : State} {x : StationNo} {l : List StationNo}

/-! ### Slot events -/

/-- The station has a slot event at the present value of the round timer, and back-off does not skip it (R64). -/
def State.takesSlot (s : State) (st : StationNo) : Bool := s.slotDue st && !s.backedOff st

theorem State.takesSlot_iff {st : StationNo} : s.takesSlot st = true ↔
    (s.stationRow st).enable = true ∧ (s.portRow (s.stationRow st).homePort).enable = true ∧
      (s.stationRow st).slotOffset = s.survey.roundTimer ∧ s.survey.roundTimer < s.general.roundLength ∧
      ¬ (s.general.backOff ≠ 0 ∧ s.general.backOff ≤ (s.station st).failures ∧ s.survey.roundNumber % 4 ≠ 0) := by
  simp only [State.takesSlot, State.slotDue, State.backedOff, Bool.and_eq_true, decide_eq_true_eq, Bool.not_eq_true',
    Bool.and_eq_false_iff, decide_eq_false_iff_not, and_assoc, not_and_or, or_assoc]

theorem slotEvent_of_idle (hfree : s.backedOff x = false) (hidle : (s.station x).run = .idle) :
    slotEvent s x = lookCheck (joinNormal s x) := by
  simp only [slotEvent, hfree, hidle, Bool.false_eq_true, if_false]

theorem slotEvent_of_busy (hfree : s.backedOff x = false) (hbusy : (s.station x).run ≠ .idle) :
    slotEvent s x = s.modStation x fun y => { y with lapped := true } := by
  cases hrun : (s.station x).run
  · exact absurd hrun hbusy
  all_goals simp only [slotEvent, hfree, hrun, Bool.false_eq_true, if_false]

/-- What a slot event makes of its station (R64). -/
def StationState.slotted (x : StationState) : StationState :=
  if x.run = .idle then { x with run := .due, urgent := false } else { x with lapped := true }

/-- The station joins the queue of the port at its slot event: it takes its slot while IDLE, and the port is its home
port (R64). -/
def State.joinsAt (s : State) (p : Port) (st : StationNo) : Bool :=
  decide (s.takesSlot st = true ∧ (s.station st).run = .idle ∧ (s.stationRow st).homePort = p)

/-- The slot events of the stations `l` lead from `s` to `t`: a station that takes its slot is slotted and, if it was
IDLE, stands at the tail of its queue; the rest is as it was but for yield-pending flags (R64, R94, R95). -/
structure State.Slotted (s : State) (l : List StationNo) (t : State) : Prop where
  frame : t = { s with
    survey := { s.survey with due := t.survey.due, stations := t.survey.stations }
    engine := { s.engine with contexts := t.engine.contexts } }
  context : ∀ c, t.context c = s.context c ∨ t.context c = (s.context c).map Dialogue.yielding
  station : ∀ st, t.station st =
    if st ∈ l ∧ s.takesSlot st = true then (s.station st).slotted else s.station st
  due : ∀ p, t.due p = { s.due p with normal := (s.due p).normal ++ l.filter (s.joinsAt p) }

theorem yields_trans {x y z : Option Dialogue} (h : y = x ∨ y = x.map Dialogue.yielding)
    (k : z = y ∨ z = y.map Dialogue.yielding) : z = x ∨ z = x.map Dialogue.yielding := by
  rcases h with rfl | rfl <;> rcases k with rfl | rfl
  · exact .inl rfl
  · exact .inr rfl
  · exact .inr rfl
  · exact .inr (by cases x <;> rfl)

theorem State.Slotted.refl (s : State) : s.Slotted [] s where
  frame := rfl
  context _ := .inl rfl
  station _ := by simp
  due _ := by simp

/-- An operation that may set yield-pending flags as well. -/
theorem State.Slotted.yieldOnly (h : s.Slotted l t) (hy : t.YieldOnly u) : s.Slotted l u := by
  obtain ⟨-, -, -, -, hsurvey, -⟩ := hy.fields
  refine ⟨?_, fun c => yields_trans (h.context c) (hy.2 c), fun st => (State.station_eq hsurvey st).trans (h.station st),
    fun p => (State.due_eq hsurvey p).trans (h.due p)⟩
  rw [hy.1, h.frame]

/-- Back-off judges a station whose slot event is still to come as in the state before. -/
theorem State.Slotted.backedOff (h : s.Slotted l t) (hx : x ∉ l) : t.backedOff x = s.backedOff x := by
  have hstation : t.station x = s.station x := by rw [h.station, if_neg fun hl => hx hl.1]
  have hround : t.survey.roundNumber = s.survey.roundNumber := by rw [h.frame]
  have hgeneral : t.general = s.general := State.general_eq (by rw [h.frame])
  rw [State.backedOff, State.backedOff, hstation, hround, hgeneral]

/-- The slot event of one more station. -/
theorem State.Slotted.snoc (h : s.Slotted l t) (hx : x ∉ l) :
    s.Slotted (l ++ [x]) (if s.slotDue x then slotEvent t x else t) := by
  have hstation : t.station x = s.station x := by rw [h.station, if_neg fun hl => hx hl.1]
  have hhome : t.stationRow x = s.stationRow x := State.stationRow_eq (by rw [h.frame]) x
  by_cases hslot : s.takesSlot x = true
  · have ⟨hdue, hfree⟩ : s.slotDue x = true ∧ t.backedOff x = false := by
      rw [h.backedOff hx]
      simpa [State.takesSlot] using hslot
    rw [if_pos hdue]
    have hcond : ∀ st, (st ∈ l ++ [x] ∧ s.takesSlot st = true) ↔ st = x ∨ (st ∈ l ∧ s.takesSlot st = true) := by
      intro st
      by_cases hst : st = x
      · simp [hst, hslot]
      · simp [hst]
    by_cases hidle : (s.station x).run = .idle
    · have hjoin := ((maxRunChecks_yieldOnly _ _).trans (lookCheck_yieldOnly (joinNormal t x)))
      rw [slotEvent_of_idle hfree (hstation ▸ hidle)]
      refine State.Slotted.yieldOnly ?_ hjoin
      refine ⟨?_, h.context, fun st => ?_, fun p => ?_⟩
      · rw [h.frame]
        rfl
      · simp only [hcond]
        by_cases hst : st = x
        · simp [hst, hstation, StationState.slotted, hidle]
        · simp [hst, h.station]
      · rw [State.modDue_due, State.modStation_due, h.due, List.filter_append]
        by_cases hp : p = (s.stationRow x).homePort
        · simp [hhome, hp, State.joinsAt, hslot, hidle]
        · simp [hhome, hp, State.joinsAt, Ne.symm hp]
    · rw [slotEvent_of_busy hfree (hstation ▸ hidle)]
      refine ⟨?_, h.context, fun st => ?_, fun p => ?_⟩
      · rw [h.frame]
        rfl
      · simp only [hcond]
        by_cases hst : st = x
        · simp [hst, hstation, StationState.slotted, hidle]
        · simp [hst, h.station]
      · rw [State.modStation_due, h.due, List.filter_append]
        simp [State.joinsAt, hidle]
  · have hsame : (if s.slotDue x then slotEvent t x else t) = t := by
      by_cases hdue : s.slotDue x = true
      · have hback : t.backedOff x = true := by
          rw [h.backedOff hx]
          simpa [State.takesSlot, hdue] using hslot
        rw [if_pos hdue, slotEvent, if_pos hback]
      · exact if_neg hdue
    rw [hsame]
    refine ⟨h.frame, h.context, fun st => ?_, fun p => ?_⟩
    · rw [h.station]
      by_cases hst : st = x
      · subst hst
        simp [hslot]
      · simp [hst]
    · rw [h.due, List.filter_append]
      simp [State.joinsAt, hslot]

/-- The slot events of stations that are all different. -/
theorem foldl_slotEvent_slotted (l : List StationNo) (hl : l.Nodup) (s : State) :
    s.Slotted l (l.foldl (fun t st => if s.slotDue st then slotEvent t st else t) s) := by
  induction l using List.reverseRecOn with
  | nil => exact .refl s
  | append_singleton l x ih =>
    rw [List.foldl_append]
    obtain ⟨hl', -, hx⟩ := List.nodup_append.1 hl
    exact (ih hl').snoc fun hmem => hx x hmem x (List.mem_singleton_self x) rfl

theorem allStations_nodup : allStations.Nodup := by
  unfold allStations
  exact List.nodup_finRange 48

theorem slotEvents_slotted (s : State) : s.Slotted allStations (slotEvents s) := by
  unfold slotEvents
  exact foldl_slotEvent_slotted allStations allStations_nodup s

/-! ### Rounds -/

theorem slotEvents_roundTimer (s : State) : (slotEvents s).survey.roundTimer = s.survey.roundTimer := by
  rw [(slotEvents_slotted s).frame]

theorem slotEvents_state (s : State) : (slotEvents s).survey.state = s.survey.state := by
  rw [(slotEvents_slotted s).frame]

theorem slotEvents_general (s : State) : (slotEvents s).general = s.general := by
  rw [(slotEvents_slotted s).frame]
  rfl

/-- A tick raises the round timer to the moment of slot events, or brings the end of the round (R63). -/
theorem raiseRound_eq {k : Nat} (h : s.survey.roundTimer + 1 = k) :
    let up := { s with survey := { s.survey with roundTimer := k, tick := some 100 } }
    raiseRound s = if k < s.general.roundLength then slotEvents up
      else { up with survey := { up.survey with endDue := true } } := by
  subst h
  rfl

theorem endRound_of_continuous (hrun : s.survey.state = .running) (hmode : s.general.surveyMode = .continuous) :
    endRound s = slotEvents { s with survey := { s.survey with
      roundNumber := (s.survey.roundNumber + 1) % 65536, roundTimer := 0, tick := some 100, endDue := false } } := by
  simp only [endRound, hmode, startRound, tickInterval, State.modSurvey, ← hrun]

theorem endRound_of_once (hmode : s.general.surveyMode = .oncePerCycle) :
    endRound s = { s with survey := { s.survey with state := .done, tick := none, endDue := false } } := by
  simp only [endRound, hmode, stopRound, State.modSurvey]

/-- ROUND_TICK of a RUNNING survey: an outstanding end first, and then the tick if the survey still runs. -/
theorem exec_roundTick_of_running (hrun : s.survey.state = .running) :
    exec .roundTick s = .next (let t := if s.survey.endDue then endRound s else s
      if t.survey.state = .running then raiseRound t else t) := by
  simp only [exec, execRoundTick, hrun, if_true]
  exact (apply_ite Host.Outcome.next _ _ _).symm

theorem roundCommands_of_stopped (h : s.survey.state ≠ .running) :
    exec .roundTick s = .next s ∧ exec .roundEnd s = .next s := by
  simp [exec, execRoundTick, execRoundEnd, h]

theorem exec_roundEnd_of_due (hrun : s.survey.state = .running) (hend : s.survey.endDue = true) :
    exec .roundEnd s = .next (endRound s) := by
  simp [exec, execRoundEnd, hrun, hend]

/-- Settles O44: the commands of a round by its state, and the slot events of one value station by station. -/
theorem roundsAndSlotEvents : Obligations.RoundsAndSlotEvents := by
  refine ⟨fun s => ⟨roundCommands_of_stopped, fun hrun => ⟨fun hend => ⟨?_, ?_⟩, fun hend => ⟨fun hmode => ?_,
    fun hmode => ?_⟩⟩⟩, fun s => ?_⟩
  · simp [exec, execRoundEnd, hend]
  · rw [exec_roundTick_of_running hrun]
    simp only [hend, Bool.false_eq_true, if_false, hrun, if_true, raiseRound_eq (s := s) rfl]
  · dsimp only
    rw [exec_roundEnd_of_due hrun hend, exec_roundTick_of_running hrun, endRound_of_continuous hrun hmode]
    set started := { s with survey := { s.survey with
      roundNumber := (s.survey.roundNumber + 1) % 65536, roundTimer := 0, tick := some 100, endDue := false } }
    have hstate : (slotEvents started).survey.state = .running := (slotEvents_state started).trans hrun
    have htimer : (slotEvents started).survey.roundTimer + 1 = 1 := congrArg (· + 1) (slotEvents_roundTimer started)
    have hgeneral : (slotEvents started).general = s.general := slotEvents_general started
    refine ⟨rfl, ?_⟩
    dsimp only
    rw [if_pos hend, if_pos hstate, raiseRound_eq htimer, hgeneral]
  · dsimp only
    rw [exec_roundEnd_of_due hrun hend, exec_roundTick_of_running hrun, endRound_of_once hmode]
    simp [hend]
  · obtain ⟨hframe, hcontext, hstation, hdue⟩ := slotEvents_slotted s
    refine ⟨hframe, hcontext, fun st => ?_, fun p => ?_⟩
    · rw [hstation]
      simp only [allStations, List.mem_finRange, true_and, State.takesSlot_iff, StationState.slotted]
    · rw [hdue]
      refine congrArg (fun joined => { s.due p with normal := (s.due p).normal ++ joined })
        (List.filter_congr fun st _ => ?_)
      simp only [State.joinsAt, State.takesSlot_iff]

end Sys2Proof.Machine

/-! PROOFS. The survey is started and stopped, and its dialogues are cut: O45. -/

namespace Sys2Proof.Machine

variable {s t u : State} {c : ContextNo} {d : Dialogue} {o : Closing} {n : StationNo} {row : StationRow}

/-! ### The pending commit at a close -/

theorem applyStationRow_context (s : State) (n : StationNo) (row : StationRow) (c : ContextNo) :
    (applyStationRow s n row).context c = s.context c ∨
      (applyStationRow s n row).context c = (s.context c).map Dialogue.yielding := by
  rw [applyStationRow_eq]
  split
  · exact .inl rfl
  · exact (settleLook_yieldOnly _ s).2 c

theorem applyStationRow_surveyState (s : State) (n : StationNo) (row : StationRow) :
    (applyStationRow s n row).survey.state = s.survey.state := by
  rw [applyStationRow_eq]
  split
  · rfl
  · rw [settleLook_survey]
    rfl

/-- A pending STATION row that a close puts in force is that of its own station: any other one still waits (R159). -/
theorem releasePending_released_cases (hwaiting : s.roster.Waiting) :
    ((releasePending (s.released c d o)).survey = (s.released c d o).survey ∧
      (releasePending (s.released c d o)).engine = (s.released c d o).engine) ∨
    ∃ row, s.management.pendingCommit = some (.station d.station row) ∧
      releasePending (s.released c d o) = applyStationRow (s.released c d o).uncommitted d.station row := by
  have hsame := s.released_management c d o
  cases hp : s.management.pendingCommit with
  | none =>
    have hrelease : releasePending (s.released c d o) = s.released c d o := by
      simp only [releasePending, hsame, hp]
    rw [hrelease]
    exact .inl ⟨rfl, rfl⟩
  | some pc =>
    have hpc : (s.released c d o).management.pendingCommit = some pc := by rw [hsame, hp]
    cases hwaits : (s.released c d o).commitWaits pc with
    | true =>
      rw [releasePending_of_waits hpc hwaits]
      exact .inl ⟨rfl, rfl⟩
    | false =>
      rw [releasePending_of_free hpc hwaits]
      cases pc with
      | format k row => exact .inl ⟨rfl, rfl⟩
      | station k row =>
        have hk : k = d.station := by
          by_contra hne
          have hrun : (s.station k).run = .engaged := hwaiting _ hp
          rw [← State.released_station_of_ne (s := s) (c := c) (d := d) (o := o) hne] at hrun
          exact absurd hrun (of_decide_eq_false hwaits)
        subst hk
        exact .inr ⟨row, rfl, rfl⟩

/-! ### Cuts -/

/-- Dialogues of `s` have been ended CUT on the way to `t`: each one either goes on, with its station as it was, or
its context is FREE and its station IDLE with the outcome CUT and the resume point of Table 4.4. No other station, no
due queue and no survey state changes (R60, R98). -/
structure State.CutTo (s t : State) : Prop where
  due : ∀ p, t.due p = s.due p
  state : t.survey.state = s.survey.state
  commit : s.management.pendingCommit = none → t.management.pendingCommit = none
  free : ∀ c, s.context c = none → t.context c = none
  station : ∀ st, (s.station st).run ≠ .engaged → t.station st = s.station st
  dialogue : ∀ c d, s.context c = some d →
    (∃ d', t.context c = some d' ∧ d'.station = d.station ∧ d'.resumePoint = d.resumePoint ∧
      t.station d.station = s.station d.station) ∨
    (t.context c = none ∧ (t.station d.station).run = .idle ∧ (t.station d.station).lastOutcome = some .cut ∧
      (s.management.pendingCommit = none →
        (t.station d.station).resume = d.resumePoint.or (s.station d.station).resume))

theorem State.CutTo.refl (s : State) : s.CutTo s :=
  ⟨fun _ => rfl, rfl, id, fun _ => id, fun _ _ => rfl, fun _ d hd => .inl ⟨d, hd, rfl, rfl, rfl⟩⟩

theorem State.CutTo.trans (h : s.CutTo t) (k : t.CutTo u) : s.CutTo u where
  due p := (k.due p).trans (h.due p)
  state := k.state.trans h.state
  commit := k.commit ∘ h.commit
  free c := k.free c ∘ h.free c
  station st hst := by
    have ht := h.station st hst
    exact (k.station st (ht.symm ▸ hst)).trans ht
  dialogue c d hd := by
    rcases h.dialogue c d hd with ⟨d', hd', hstation, hresume, hsame⟩ | ⟨hfree, hidle, hlast, hresume⟩
    · rcases k.dialogue c d' hd' with ⟨d'', hd'', hstation', hresume', hsame'⟩ | ⟨hfree, hidle, hlast, hresume'⟩
      · rw [hstation] at hstation' hsame'
        exact .inl ⟨d'', hd'', hstation', hresume'.trans hresume, hsame'.trans hsame⟩
      · rw [hstation] at hidle hlast hresume'
        refine .inr ⟨hfree, hidle, hlast, fun hnone => ?_⟩
        rw [hresume' (h.commit hnone), hresume, hsame]
    · have hsame := k.station d.station (by rw [hidle]; nofun)
      rw [← hsame] at hidle hlast hresume
      exact .inr ⟨k.free c hfree, hidle, hlast, hresume⟩

theorem State.released_resume_of_cut (s : State) (c : ContextNo) (d : Dialogue) :
    ((s.released c d .cut).station d.station).resume = d.resumePoint.or (s.station d.station).resume := by
  obtain ⟨-, -, hsurvey, -⟩ := s.closing_frame c d .cut
  rw [State.released, State.setContext_station, recordOutcome_station, State.station_eq hsurvey]

theorem State.released_context {c' : ContextNo} (hc : c' ≠ c) : (s.released c d o).context c' = s.context c' ∨
    (s.released c d o).context c' = (s.context c').map Dialogue.yielding := by
  obtain ⟨-, -, -, hengine, -⟩ := s.closing_frame c d o
  have hrecord := recordOutcome_context (s.closing c d o) d o c'
  rw [State.context_eq hengine] at hrecord
  rwa [State.released, State.setContext_context, if_neg hc]

theorem State.released_surveyState_of_cut (s : State) (c : ContextNo) (d : Dialogue) :
    (s.released c d .cut).survey.state = s.survey.state := by
  obtain ⟨-, -, hsurvey, -⟩ := s.closing_frame c d .cut
  have hrecord : (s.released c d .cut).survey.state = (s.closing c d .cut).survey.state := rfl
  rw [hrecord, hsurvey]

/-- What a close with the outcome CUT makes of the state before its last look, on the way of `State.CutTo`. -/
theorem releasePending_cut (hok : s.roster.Ok) (hwaiting : s.roster.Waiting) (hd : s.context c = some d) :
    let t := releasePending (s.released c d .cut)
    (∀ p, t.due p = s.due p) ∧ t.survey.state = s.survey.state ∧
    (∀ st, st ≠ d.station → t.station st = s.station st) ∧
    (t.station d.station).run = .idle ∧ (t.station d.station).lastOutcome = some .cut ∧
    (s.management.pendingCommit = none →
      (t.station d.station).resume = d.resumePoint.or (s.station d.station).resume) ∧
    ∀ c', c' ≠ c → t.context c' = s.context c' ∨ t.context c' = (s.context c').map Dialogue.yielding := by
  dsimp only
  obtain ⟨hlast, -, hrun, -⟩ := s.released_station c d .cut
  have hidle : ((s.released c d .cut).station d.station).run = .idle := hrun.trans (if_neg (by simp))
  have hdue : ∀ p, (s.released c d .cut).due p = s.due p := fun p =>
    (s.released_due c d .cut p).trans (if_neg (by simp))
  have hstate := s.released_surveyState_of_cut c d
  rcases releasePending_released_cases (c := c) (d := d) (o := .cut) hwaiting with ⟨hsurvey, hengine⟩ | ⟨row, hp, hrow⟩
  · refine ⟨fun p => ?_, ?_, fun st hst => ?_, ?_, ?_, fun _ => ?_, fun c' hc' => ?_⟩
    · rw [State.due_eq hsurvey, hdue]
    · rw [hsurvey, hstate]
    · rw [State.station_eq hsurvey, State.released_station_of_ne hst]
    · rw [State.station_eq hsurvey, hidle]
    · rw [State.station_eq hsurvey, hlast]
    · rw [State.station_eq hsurvey, s.released_resume_of_cut]
    · rw [State.context_eq hengine]
      exact State.released_context hc'
  · obtain ⟨hstation, hqueue⟩ := applyStationRow_survey (s.released c d .cut).uncommitted d.station row
    have hout : ∀ p, ¬ (s.due p).Holds d.station := hok.not_holds (by
      rw [hok.run_of_bound (State.roster_bound_of_context hd)]
      nofun)
    rw [hrow]
    refine ⟨fun p => ?_, ?_, fun st hst => ?_, ?_, ?_, fun hnone => ?_, fun c' hc' => ?_⟩
    · rw [hqueue, State.modManagement_due, hdue]
      split
      · exact DueQueue.remove_of_not_holds (hout p)
      · rfl
    · rw [applyStationRow_surveyState]
      exact hstate
    · rw [hstation, if_neg hst]
      exact State.released_station_of_ne hst
    · rw [hstation, if_pos rfl, StationState.afterRow_eq, State.modManagement_station]
      simp [hidle]
    · rw [hstation, if_pos rfl, StationState.afterRow_eq, State.modManagement_station]
      exact hlast
    · rw [hp] at hnone
      cases hnone
    · exact yields_trans (State.released_context hc') (applyStationRow_context _ _ _ c')

/-- The close of one dialogue with the outcome CUT. -/
theorem closeDialogue_cutTo (hok : s.roster.Ok) (hwaiting : s.roster.Waiting) (c : ContextNo) :
    s.CutTo (closeDialogue s c .cut) := by
  cases hd : s.context c with
  | none =>
    have hfree : closeDialogue s c .cut = s := by simp [closeDialogue, hd]
    rw [hfree]
    exact .refl s
  | some d =>
    have hbound := State.roster_bound_of_context hd
    have hfree : (closeDialogue s c .cut).context c = none :=
      Option.map_eq_none_iff.1 ((closeDialogue_spec s c .cut).2 hok)
    obtain ⟨hdue, hstate, hothers, hidle, hlast, hresume, hcontext⟩ := releasePending_cut hok hwaiting hd
    rw [closeDialogue_eq_released hd] at hfree ⊢
    set released := releasePending (s.released c d .cut) with hreleased
    obtain ⟨-, -, -, -, hsurvey, -, -, hmanagement, -⟩ := lookCheck_frame released
    have hlook : ∀ c', c' ≠ c → (lookCheck released).context c' = s.context c' ∨
        (lookCheck released).context c' = (s.context c').map Dialogue.yielding :=
      fun c' hc' => yields_trans (hcontext c' hc') ((lookCheck_yieldOnly released).2 c')
    refine ⟨fun p => (State.due_eq hsurvey p).trans (hdue p), (congrArg Survey.state hsurvey).trans hstate,
      fun hnone => ?_, fun c' hc' => ?_, fun st hst => ?_, fun c' d' hd' => ?_⟩
    · rw [hmanagement, hreleased]
      simp only [releasePending, State.released_management, hnone]
    · have hne : c' ≠ c := by
        rintro rfl
        cases hd.symm.trans hc'
      rcases hlook c' hne with h | h <;> rw [h, hc']
      rfl
    · have hne : st ≠ d.station := by
        rintro rfl
        exact hst (hok.run_of_bound hbound)
      exact (State.station_eq hsurvey st).trans (hothers st hne)
    · by_cases hc' : c' = c
      · subst hc'
        cases hd.symm.trans hd'
        rw [State.station_eq hsurvey]
        exact .inr ⟨hfree, hidle, hlast, hresume⟩
      · have hne : d'.station ≠ d.station := fun h =>
          hc' (hok.eq_of_bound c' c d.station (h ▸ State.roster_bound_of_context hd') hbound)
        have hsame := (State.station_eq hsurvey d'.station).trans (hothers d'.station hne)
        rcases hlook c' hc' with h | h
        · exact .inl ⟨d', h.trans hd', rfl, rfl, hsame⟩
        · exact .inl ⟨d'.yielding, by rw [h, hd']; rfl, rfl, rfl, hsame⟩

theorem cutAll_cutTo (hok : s.roster.Ok) (hwaiting : s.roster.Waiting) : s.CutTo (cutAll s) := by
  have hfold : ∀ (l : List ContextNo) (s : State), s.roster.Ok → s.roster.Waiting →
      s.CutTo (l.foldl (fun t c => closeDialogue t c .cut) s) := by
    intro l
    induction l with
    | nil => exact fun s _ _ => .refl s
    | cons c l ih =>
      intro s hok hwaiting
      obtain ⟨hok', hwaiting', -⟩ := closeDialogue_keeps s c .cut hok hwaiting
      exact (closeDialogue_cutTo hok hwaiting c).trans (ih _ hok' hwaiting')
  exact hfold allContexts s hok hwaiting

/-! ### The commands -/

theorem execKeyOffGraceExpiry_of_stopped (h : s.survey.grace = none) : exec .keyOffGraceExpiry s = .next s := by
  simp only [exec, execKeyOffGraceExpiry, h]

theorem execKeyOffGraceExpiry_of_running (h : s.survey.grace ≠ none) : exec .keyOffGraceExpiry s =
    .next (checkSleep (cutAll { s with survey := { s.survey with grace := none } })) := by
  obtain ⟨k, hk⟩ := Option.ne_none_iff_exists'.1 h
  simp only [exec, execKeyOffGraceExpiry, hk]
  rfl

/-- SURVEY STOP up to the closes: OFF, the due queues empty, the grace stopped (R74). -/
theorem stopSurvey_eq (s : State) : stopSurvey s = cutAll { s with survey := { s.survey with
    state := .off, tick := none, endDue := false, grace := none
    due := Vector.replicate 3 { urgent := [], normal := [] }
    stations := mapAll (fun x => if x.run = .due then { x with run := .idle, urgent := false } else x)
      s.survey.stations } } := rfl

theorem serveSurveyStart_of_le {p : Port} {mode : Byte} {rest : List Byte} (h : 2 ≤ mode.toNat) (code : Byte) :
    serveSurveyStart s p (code :: mode :: rest) = plainAnswer s .badArg := by
  have hmode : modeOf (stagedByte (code :: mode :: rest) 1) = none := by
    change modeOf mode.toNat = none
    obtain ⟨k, hk⟩ := Nat.exists_eq_add_of_le' h
    rw [hk]
    rfl
  rw [serveSurveyStart, needBytes_of_le (by simp), hmode]

theorem serveSurveyStart_of_lt {p : Port} {mode : Byte} {rest : List Byte} (h : mode.toNat < 2) (code : Byte) :
    serveSurveyStart s p (code :: mode :: rest) =
      plainAnswer (startSurvey s (if mode = 0 then .oncePerCycle else .continuous)) .ok := by
  have hmode : modeOf (stagedByte (code :: mode :: rest) 1) =
      some (if mode = 0 then .oncePerCycle else .continuous) := by
    change modeOf mode.toNat = _
    have hbits : mode = 0 ∨ mode = 1 := by bv_omega
    rcases hbits with rfl | rfl <;> rfl
  rw [serveSurveyStart, needBytes_of_le (by simp), hmode]
  rfl

/-- SURVEY START with a mode of the table: a round at once with the key ON, PAUSED with it OFF (R73). -/
theorem startSurvey_eq (s : State) (mode : SurveyMode) :
    let moded := { s with
      tables := { s.tables with general := { s.tables.general with surveyMode := mode } }
      survey := { s.survey with roundTimer := 0, roundNumber := 0, endDue := false } }
    startSurvey s mode = if s.clock.key = .on then
        slotEvents { moded with survey := { moded.survey with state := .running, tick := some 100 } }
      else { moded with survey := { moded.survey with state := .paused, tick := none } } := by
  unfold startSurvey
  cases hkey : s.clock.key <;> simp [hkey, startRound, stopRound, State.modSurvey, State.modTables, tickInterval]

theorem exec_surveyStop_of_answer {p : Port} {rest : List Byte} {r : Result}
    (hslot : s.management.slot = .serving p (0x09 :: rest))
    (h : serveSurveyStop s p (0x09 :: rest) = plainAnswer t r) :
    exec .surveyStop s = .next (checkSleep (respond t p [[0x09, r.code, 0, 0, 0, 0, 0, 0]])) :=
  congrArg (fun t => Host.Outcome.next (checkSleep t)) (serve_of_plainAnswer hslot rfl h)

theorem exec_surveyStart_of_answer {p : Port} {rest : List Byte} {r : Result}
    (hslot : s.management.slot = .serving p (0x08 :: rest))
    (h : serveSurveyStart s p (0x08 :: rest) = plainAnswer t r) :
    exec .surveyStart s = .next (checkSleep (respond t p [[0x08, r.code, 0, 0, 0, 0, 0, 0]])) :=
  congrArg (fun t => Host.Outcome.next (checkSleep t)) (serve_of_plainAnswer hslot rfl h)

/-- Settles O45: cuts are followed close by close, and the requests are served as their equations say. -/
theorem surveyIsStartedAndStopped : Obligations.SurveyIsStartedAndStopped := by
  refine ⟨fun s hs => ?_, fun s => ⟨execKeyOffGraceExpiry_of_stopped, execKeyOffGraceExpiry_of_running⟩,
    fun s p rest => ⟨fun hslot => ?_, fun mode hslot => ⟨fun hmode => ?_, fun hmode => ?_⟩⟩⟩
  · have hcut := cutAll_cutTo hs.sound.ok hs.sound.waiting
    have hfree : ∀ c, (cutAll s).context c = none := fun c =>
      Option.map_eq_none_iff.1 (cutAll_vacant hs.sound.ok hs.sound.waiting c)
    refine ⟨hfree, fun c d hd => ?_, cutAll_store s, (cutAll_frame s).2.1, hcut.due, hcut.state⟩
    rcases hcut.dialogue c d hd with ⟨d', hd', -⟩ | ⟨-, hidle, hlast, hresume⟩
    · cases (hfree c).symm.trans hd'
    · exact ⟨hidle, hlast, fun hnone => (hresume hnone).trans (d.resumePoint_or _)⟩
  · rw [exec_surveyStop_of_answer (t := stopSurvey s) (r := .ok) hslot rfl, stopSurvey_eq]
    rfl
  · rw [exec_surveyStart_of_answer hslot (serveSurveyStart_of_le hmode _)]
    rfl
  · rw [exec_surveyStart_of_answer hslot (serveSurveyStart_of_lt hmode _), startSurvey_eq]
    rfl

end Sys2Proof.Machine

/-! PROOFS. What the decoder reads, and where reports and replies go: O25. -/

namespace Sys2Proof.Machine

variable {s : State} {d : Descriptor} {f : Field} {data : List Byte} {sev : Nat}

/-! ### Fields -/

/-- Where the byte of weight `256 ^ (width - 1 - i)` of a field stands (R102, R105). -/
def Field.place (f : Field) (order : ByteOrder) (i : Nat) : Nat :=
  match order with
  | .mostSignificantFirst => f.pos + i
  | .leastSignificantFirst => f.pos + (f.width - 1 - i)

/-- The bytes of a field that the data reach, one by one. -/
theorem fieldIn_eq (order : ByteOrder) (h : f.pos + f.width ≤ data.length) :
    fieldIn order f data = (List.range f.width).map fun i => data.getD (f.place order i) 0 := by
  have hlength : ((data.drop f.pos).take f.width).length = f.width := by
    rw [List.length_take, List.length_drop]
    omega
  cases order with
  | mostSignificantFirst =>
    refine List.ext_getElem (by simpa [fieldIn] using hlength) fun i h₁ h₂ => ?_
    have hi : i < f.width := by simpa using h₂
    simp [fieldIn, Field.place, List.getD_eq_getElem?_getD, show f.pos + i < data.length by omega]
  | leastSignificantFirst =>
    refine List.ext_getElem (by simpa [fieldIn] using hlength) fun i h₁ h₂ => ?_
    have hi : i < f.width := by simpa using h₂
    simp [fieldIn, Field.place, List.getD_eq_getElem?_getD, List.getElem_reverse, hlength,
      show f.pos + (f.width - 1 - i) < data.length by omega]

/-- A field's value is the number its bytes spell in the descriptor's byte order (R105). -/
theorem readField_eq (d : Descriptor) (h : f.pos + f.width ≤ data.length) : readField d f data =
    (List.range f.width).foldl (fun (acc : Nat) i => acc * 256 + (data.getD (f.place d.byteOrder i) 0).toNat) 0 := by
  rw [readField, fieldIn_eq d.byteOrder h, ofBigEndian, List.foldl_map]

/-! ### Frames -/

/-- The data reach every byte that a record or an announcement needs (R108). -/
theorem reportWithin_iff : reportWithin d data = true ↔
    d.codeField.pos + d.codeField.width ≤ data.length ∧ d.statusPos < data.length ∧
      (d.countField.width = 0 ∨ d.countField.pos + d.countField.width ≤ data.length) ∧
      d.severityPos.all (fun p => decide (p < data.length)) = true := by
  unfold reportWithin Field.within
  cases d.severityPos <;> simp [and_assoc]

theorem Field.within_iff : f.within data = true ↔ f.pos + f.width ≤ data.length := decide_eq_true_iff

/-- A report that the data reach, with each number read where its bytes stand (R109, R110, R112). -/
theorem readReport_of_within {number : Field → Nat}
    (hnumber : ∀ f : Field, f.pos + f.width ≤ data.length → readField d f data = number f)
    (h : reportWithin d data = true) :
    readReport d sev data = (statusOf d (byteAt data d.statusPos)).map fun st =>
      { code := number d.codeField, state := st
        severity := severityOf d sev data
        count := if d.countField.width = 0 then none
          else some { r := number d.countField, m := 256 ^ d.countField.width, g := d.guardG } } := by
  obtain ⟨hcode, -, hcount, -⟩ := reportWithin_iff.1 h
  have hread : countOf d data = if d.countField.width = 0 then none
      else some { r := number d.countField, m := 256 ^ d.countField.width, g := d.guardG } := by
    unfold countOf
    split
    · rfl
    · next hwidth =>
      rw [hnumber _ (hcount.resolve_left hwidth)]
      rfl
  rw [readReport, if_pos h, hnumber _ hcode, hread]

/-- The reply that a record gives (R107, R108). -/
def readRecord (d : Descriptor) (sev : Nat) (data : List Byte) : Option Reply :=
  if d.indexField.within data then (readReport d sev data).map (.record (readField d d.indexField data)) else none

theorem readReply_of_no_kind (h : d.kindPos = none) : readReply d sev data = readRecord d sev data := by
  simp only [readReply, replyKind, h]
  rfl

/-- With a kind position the byte there sorts a reply (R107). -/
theorem readReply_of_kind {k : Nat} (h : d.kindPos = some k) : readReply d sev data =
    if data.length ≤ k then none
    else if byteAt data k = d.headerKind then
      if d.nField.within data then some (.header (readField d d.nField data)) else none
    else if byteAt data k = d.recordKind then readRecord d sev data else none := by
  unfold readReply replyKind
  simp only [h]
  by_cases hlength : data.length ≤ k
  · simp only [if_pos hlength]
  by_cases hheader : byteAt data k = d.headerKind
  · simp only [if_neg hlength, if_pos hheader]
  by_cases hrecord : byteAt data k = d.recordKind
  · simp only [if_neg hlength, if_neg hheader, if_pos hrecord]
    rfl
  · simp only [if_neg hlength, if_neg hheader, if_neg hrecord]

theorem readAnnouncement_of_no_kind (h : d.kindPos = none) :
    readAnnouncement d sev data = readReport d sev data := by
  simp only [readAnnouncement, announceKindOk, h, if_true]

theorem readAnnouncement_of_kind {k : Nat} (h : d.kindPos = some k) : readAnnouncement d sev data =
    if k < data.length ∧ byteAt data k = d.recordKind then readReport d sev data else none := by
  simp only [readAnnouncement, announceKindOk, h, Bool.and_eq_true, decide_eq_true_eq]

/-! ### The context that takes a reply -/

theorem contextOf_of_context (hs : s.Inv) {c : ContextNo} {x : Dialogue} (hx : s.context c = some x) :
    s.contextOf x.station = some c := by
  have hbound := State.roster_bound_of_context hx
  cases h : s.contextOf x.station with
  | none =>
    have hnone := List.find?_eq_none.1 h c (List.mem_finRange c)
    simp [hx] at hnone
  | some c' =>
    obtain ⟨x', hx', hstation⟩ := contextOf_station h
    exact congrArg some (hs.sound.ok.eq_of_bound c' c x.station (hstation ▸ State.roster_bound_of_context hx') hbound)

theorem contextOf_of_engaged (hs : s.Inv) {st : StationNo} (h : (s.station st).run = .engaged) :
    ∃ c x, s.contextOf st = some c ∧ s.context c = some x ∧ x.station = st := by
  obtain ⟨c, hc⟩ := (hs.sound.ok.engaged_iff st).1 h
  obtain ⟨x, hx, rfl⟩ := State.roster_bound.1 hc
  exact ⟨c, x, contextOf_of_context hs hx, hx, rfl⟩

theorem contextOf_of_not_engaged (hs : s.Inv) {st : StationNo} (h : (s.station st).run ≠ .engaged) :
    s.contextOf st = none := by
  rw [Option.eq_none_iff_forall_ne_some]
  intro c hc
  obtain ⟨x, hx, rfl⟩ := contextOf_station hc
  exact hs.sound.ok.not_bound h c (State.roster_bound_of_context hx)

/-! ### Announcements and replies handed on -/

variable {p : Port} {x : Frame} {row : IdentRow}

theorem handOn_announce (hdata : x.remote = false) (hcls : row.cls = .announce) :
    handOn s p x row = takeAnnouncement s p row x.data := by
  simp only [handOn, hdata, hcls, Bool.false_eq_true, if_false]

theorem handOn_reply (hdata : x.remote = false) (hcls : row.cls = .reply) :
    handOn s p x row = takeReply s p row x.data := by
  simp only [handOn, hdata, hcls, Bool.false_eq_true, if_false]

theorem takeReply_of_unowned (h : (s.station row.station).run ≠ .engaged ∨ (s.stationRow row.station).homePort ≠ p) :
    takeReply s p row data = countStray s p := by
  have howned : s.replyOwned p row.station = false := by
    rcases h with h | h <;> simp [State.replyOwned, h]
  rw [takeReply, howned, if_neg Bool.false_ne_true]

theorem takeReply_of_owned (hrun : (s.station row.station).run = .engaged)
    (hport : (s.stationRow row.station).homePort = p) : takeReply s p row data =
    match readReply (s.format row.descriptor) (s.stationRow row.station).defaultSeverity data with
    | none => countMalformed s p
    | some r =>
      match s.contextOf row.station with
      | none => countStray s p
      | some c =>
        match s.context c with
        | none => countStray s p
        | some d => giveReply s p c d r := by
  have howned : s.replyOwned p row.station = true := by simp [State.replyOwned, hrun, hport]
  rw [takeReply, howned, if_pos rfl] <;> rfl

theorem giveReply_header {c : ContextNo} {dl : Dialogue} {n : Nat} : giveReply s p c dl (.header n) =
    if dl.phase = .awaitHeader then takeHeader s c dl n else countStray s p := by
  unfold giveReply
  cases dl.phase <;> rfl

theorem giveReply_record {c : ContextNo} {dl : Dialogue} {i : Nat} {r : FaultReport} :
    giveReply s p c dl (.record i r) = if dl.phase = .receiving then takeRecord s c dl i r else countStray s p := by
  unfold giveReply
  cases dl.phase <;> rfl

/-- Settles O25: the decoder by its equations, the context by the bindings of a state in order, and the hand-on by
class. -/
theorem reportsAreMergedOrCounted : Obligations.ReportsAreMergedOrCounted := by
  refine ⟨?_, fun s hs st => ⟨contextOf_of_engaged hs, contextOf_of_not_engaged hs, fun c d hd hst =>
    hst ▸ contextOf_of_context hs hd⟩, fun s p x row hdata => ⟨fun hcls => ?_, fun hcls => ⟨fun h => ?_,
    fun hrun hport => ⟨fun hread => ?_, fun c dl hc hdl => ⟨fun n hread => ?_, fun i r hread => ?_⟩⟩⟩⟩⟩
  · intro d sev data byteOf number reached long status state report record
    have hnumber : ∀ f : Field, f.pos + f.width ≤ data.length → readField d f data = number f :=
      fun f hf => readField_eq d hf
    have hreport : readReport d sev data = report := by
      by_cases hlong : long
      · rw [readReport_of_within hnumber (reportWithin_iff.2 hlong)]
        exact (if_pos hlong).symm
      · rw [readReport, if_neg (mt reportWithin_iff.1 hlong)]
        exact (if_neg hlong).symm
    have hrecord : readRecord d sev data = record := by
      by_cases hindex : reached d.indexField
      · rw [readRecord, if_pos (Field.within_iff.2 hindex), hreport, hnumber _ hindex]
        exact (if_pos hindex).symm
      · rw [readRecord, if_neg (mt Field.within_iff.1 hindex)]
        exact (if_neg hindex).symm
    refine ⟨hreport, fun hkind => ⟨?_, ?_⟩, fun k hkind => ⟨?_, ?_⟩⟩
    · rw [readReply_of_no_kind hkind, hrecord]
    · rw [readAnnouncement_of_no_kind hkind, hreport]
    · have hheader : (if d.nField.within data then some (Reply.header (readField d d.nField data)) else none) =
          if reached d.nField then some (.header (number d.nField)) else none := by
        by_cases hn : reached d.nField
        · rw [if_pos (Field.within_iff.2 hn), if_pos hn, hnumber _ hn]
        · rw [if_neg (mt Field.within_iff.1 hn), if_neg hn]
      rw [readReply_of_kind hkind, hheader, hrecord]
      rfl
    · rw [readAnnouncement_of_kind hkind, hreport]
      rfl
  · rw [handOn_announce hdata hcls]
    rfl
  · rw [handOn_reply hdata hcls, takeReply_of_unowned h]
    rfl
  · rw [handOn_reply hdata hcls, takeReply_of_owned hrun hport, hread]
    rfl
  · rw [handOn_reply hdata hcls, takeReply_of_owned hrun hport, hread, hc]
    simp only [hdl, giveReply_header]
    rfl
  · rw [handOn_reply hdata hcls, takeReply_of_owned hrun hport, hread, hc]
    simp only [hdl, giveReply_record]
    rfl

end Sys2Proof.Machine

/-! PROOFS. The staged layouts of STATION and PORT rows (O15): each field of a row is spelled by its bytes. -/

namespace Sys2Proof.Machine

/-! ### Numbers and the bytes that spell them -/

theorem toNat_eq_iff_eq_byte {b : Byte} {v : Nat} (hv : v < 256) : b.toNat = v ↔ b = byte v := by
  rw [← BitVec.toNat_inj, byte, BitVec.toNat_ofNat, Nat.mod_eq_of_lt hv]

/-- Only the low bytes of a number stand in its spelling. -/
theorem bigEndian_mul_add (w a v : Nat) : bigEndian w (a * 256 ^ w + v) = bigEndian w v := by
  induction w generalizing a with
  | zero => rfl
  | succ w ih =>
    have hpow : a * 256 ^ (w + 1) + v = a * 256 * 256 ^ w + v := by ring
    have hdiv : (a * 256 * 256 ^ w + v) / 256 ^ w = a * 256 + v / 256 ^ w := by
      rw [Nat.add_comm, Nat.add_mul_div_right _ _ (by positivity), Nat.add_comm]
    have hbyte : BitVec.ofNat 8 (a * 256 + v / 256 ^ w) = BitVec.ofNat 8 (v / 256 ^ w) := by
      apply BitVec.eq_of_toNat_eq
      simp only [BitVec.toNat_ofNat]
      omega
    rw [hpow, bigEndian, bigEndian, hdiv, hbyte, ih]

theorem foldl_bytes (acc : Nat) (bs : List Byte) :
    bs.foldl (fun acc b => acc * 256 + b.toNat) acc = acc * 256 ^ bs.length + ofBigEndian bs := by
  induction bs generalizing acc with
  | nil => simp [ofBigEndian]
  | cons b bs ih =>
    rw [ofBigEndian, List.foldl_cons, List.foldl_cons, ih, ih, List.length_cons]
    ring

theorem ofBigEndian_cons (b : Byte) (bs : List Byte) :
    ofBigEndian (b :: bs) = b.toNat * 256 ^ bs.length + ofBigEndian bs := by
  rw [ofBigEndian, List.foldl_cons, foldl_bytes]
  simp

theorem bigEndian_ofBigEndian (bs : List Byte) : bigEndian bs.length (ofBigEndian bs) = bs := by
  induction bs with
  | nil => rfl
  | cons b bs ih =>
    have hhead : ofBigEndian (b :: bs) / 256 ^ bs.length = b.toNat := by
      rw [ofBigEndian_cons, Nat.add_comm, Nat.add_mul_div_right _ _ (by positivity),
        Nat.div_eq_of_lt (ofBigEndian_lt bs), Nat.zero_add]
    rw [List.length_cons, bigEndian, hhead, ofBigEndian_cons, bigEndian_mul_add, ih]
    simp

theorem length_bigEndian (w v : Nat) : (bigEndian w v).length = w := by
  induction w with
  | zero => rfl
  | succ w ih => rw [bigEndian, List.length_cons, ih]

theorem ofBigEndian_bigEndian (w v : Nat) : ofBigEndian (bigEndian w v) = v % 256 ^ w := by
  induction w with
  | zero => simp [bigEndian, ofBigEndian, Nat.mod_one]
  | succ w ih =>
    have hsplit : v % 256 ^ (w + 1) = v % 256 ^ w + 256 ^ w * (v / 256 ^ w % 256) := Nat.mod_pow_succ
    rw [bigEndian, ofBigEndian_cons, length_bigEndian, ih, BitVec.toNat_ofNat, hsplit]
    ring

theorem ofBigEndian_eq_iff {bs : List Byte} {w v : Nat} (hlen : bs.length = w) (hv : v < 256 ^ w) :
    ofBigEndian bs = v ↔ bs = bigEndian w v := by
  constructor
  · rintro rfl
    rw [← hlen, bigEndian_ofBigEndian]
  · rintro rfl
    rw [ofBigEndian_bigEndian, Nat.mod_eq_of_lt hv]

/-! ### Codes -/

theorem finOf_eq_some_iff {n x : Nat} {i : Fin n} : finOf n x = some i ↔ x = i.val := by
  constructor
  · intro h
    simp only [finOf, Option.dite_none_right_eq_some, Option.some.injEq] at h
    obtain ⟨_, rfl⟩ := h
    rfl
  · rintro rfl
    exact finOf_val i

theorem idWord_lt (id : CanId) : idWord id < 256 ^ 4 := by
  cases id with
  | standard v => have := v.isLt; simp only [idWord]; omega
  | extended v => have := v.isLt; simp only [idWord]; omega

theorem readId_idWord (id : CanId) : readId (idWord id) = some id := by
  cases id with
  | standard v => simp [readId, idWord, v.isLt]
  | extended v =>
    have hv := v.isLt
    have hword : BitVec.ofNat 29 (2147483648 + v.toNat) = v := by
      apply BitVec.eq_of_toNat_eq
      rw [BitVec.toNat_ofNat]
      omega
    rw [readId, idWord, if_neg (by omega), if_pos (by omega), hword]

theorem readId_eq_some_iff {w : Nat} {id : CanId} : readId w = some id ↔ w = idWord id := by
  constructor
  · intro h
    unfold readId at h
    split at h
    · cases h
      simp only [idWord, BitVec.toNat_ofNat]
      omega
    · split at h
      · cases h
        simp only [idWord, BitVec.toNat_ofNat]
        omega
      · cases h
  · rintro rfl
    exact readId_idWord id

theorem rateOf_eq_some_iff {x : Nat} {r : BitRate} : rateOf x = some r ↔ x = rateCode r := by
  constructor
  · intro h
    unfold rateOf at h
    split at h <;> cases h <;> rfl
  · rintro rfl
    cases r <;> rfl

/-! ### Flags -/

theorem flags_eq_iff_three {n : Nat} {a b c : Bool} :
    n = flagBit 1 a + flagBit 2 b + flagBit 4 c ↔
      n < 8 ∧ n.testBit 0 = a ∧ n.testBit 1 = b ∧ n.testBit 2 = c := by
  constructor
  · rintro rfl
    revert a b c
    decide
  · rintro ⟨hn, rfl, rfl, rfl⟩
    revert n
    decide

theorem flagBits_lt (a b c : Bool) : flagBit 1 a + flagBit 2 b + flagBit 4 c < 8 :=
  (flags_eq_iff_three.1 rfl).1

theorem flags_eq_iff_four {n : Nat} {a b c d : Bool} :
    n = flagBit 1 a + flagBit 2 b + flagBit 4 c + flagBit 8 d ↔
      n < 16 ∧ n.testBit 0 = a ∧ n.testBit 1 = b ∧ n.testBit 2 = c ∧ n.testBit 3 = d := by
  constructor
  · rintro rfl
    revert a b c d
    decide
  · rintro ⟨hn, rfl, rfl, rfl, rfl⟩
    revert n
    decide

theorem eq_portBits_iff {n : Nat} {ps : PortSet} : n = portBits ps ↔ n < 8 ∧ portSetOf n = ps := by
  have hps : portSetOf n = ps ↔
      n.testBit 0 = ps.get 0 ∧ n.testBit 1 = ps.get 1 ∧ n.testBit 2 = ps.get 2 := by
    constructor
    · rintro rfl
      exact ⟨rfl, rfl, rfl⟩
    · rintro ⟨h0, h1, h2⟩
      ext i hi
      interval_cases i
      · exact h0
      · exact h1
      · exact h2
  rw [portBits, flags_eq_iff_three, hps]

/-! ### Blocks of a layout -/

theorem take_drop_eq_append_iff {bs xs ys : List Byte} {i n : Nat} (hbs : i + n ≤ bs.length)
    (hn : xs.length ≤ n) : (bs.drop i).take n = xs ++ ys ↔
      (bs.drop i).take xs.length = xs ∧ (bs.drop (i + xs.length)).take (n - xs.length) = ys := by
  have hsplit : (bs.drop i).take n =
      (bs.drop i).take xs.length ++ (bs.drop (i + xs.length)).take (n - xs.length) := by
    rw [← List.drop_drop, ← List.take_add, Nat.add_sub_cancel' hn]
  have hlen : ((bs.drop i).take xs.length).length = xs.length := by
    rw [List.length_take, List.length_drop]
    omega
  rw [hsplit]
  exact ⟨fun h => List.append_inj h hlen, fun ⟨hxs, hys⟩ => by rw [hxs, hys]⟩

theorem take_drop_eq_bigEndian_append_iff {bs ys : List Byte} {i n w v : Nat} (hv : v < 256 ^ w)
    (hn : w ≤ n) (hbs : i + n ≤ bs.length) : (bs.drop i).take n = bigEndian w v ++ ys ↔
      stagedField bs i w = v ∧ (bs.drop (i + w)).take (n - w) = ys := by
  have hw := length_bigEndian w v
  have hlen : ((bs.drop i).take w).length = w := by
    rw [List.length_take, List.length_drop]
    omega
  rw [take_drop_eq_append_iff hbs (by omega), hw, stagedField, ofBigEndian_eq_iff hlen hv]

theorem take_drop_eq_byte_cons_iff {bs ys : List Byte} {i n v : Nat} (hv : v < 256) (hn : 1 ≤ n)
    (hbs : i + n ≤ bs.length) : (bs.drop i).take n = byte v :: ys ↔
      stagedByte bs i = v ∧ (bs.drop (i + 1)).take (n - 1) = ys := by
  have hbyte : (bs.drop i).take 1 = [bs.getD i 0] := by
    rw [List.drop_eq_getElem_cons (by omega), List.getD_eq_getElem _ _ (by omega)]
    rfl
  have hblock := take_drop_eq_append_iff (xs := [byte v]) (ys := ys) hbs hn
  rwa [List.length_singleton, hbyte, List.singleton_inj, ← toNat_eq_iff_eq_byte hv] at hblock

/-! ### STATION rows -/

/-- Each field of a STATION row is what its staged bytes spell (R56, Table 13.7). -/
structure StationRow.ReadsFrom (r : StationRow) (bs : List Byte) : Prop where
  flags : stagedByte bs 0 = flagBit 1 r.enable + flagBit 2 r.announceTriggers + flagBit 4 r.snapEnable
  homePort : stagedByte bs 1 = r.homePort.val
  queryId : stagedField bs 2 4 = idWord r.queryId
  templateLength : stagedByte bs 6 = r.templateLength
  template : stagedTemplate bs = r.template
  descriptor : stagedByte bs 15 = r.descriptor.val
  slotOffset : stagedField bs 16 2 = r.slotOffset
  window : stagedByte bs 18 = r.window
  retryLimit : stagedByte bs 19 = r.retryLimit
  waitTime : 10 * stagedByte bs 20 = r.waitTime
  defaultSeverity : stagedByte bs 21 = r.defaultSeverity
  postCount : stagedByte bs 22 = r.postCount
  postWindow : 10 * stagedByte bs 23 = r.postWindow

theorem keepIf_eq_some_iff {α : Type} {b : Bool} {x y : α} :
    keepIf b (some x) = some y ↔ b = true ∧ x = y := by
  cases b <;> simp [keepIf]

theorem decodeStation_eq_some_iff {len : Nat} {bs : List Byte} {r : StationRow} :
    decodeStation len bs = some r ↔ r.ok len = true ∧ r.ReadsFrom bs := by
  constructor
  · intro h
    unfold decodeStation at h
    dsimp only at h
    split at h
    · next home id d hhome hid hd =>
      obtain ⟨hok, rfl⟩ := keepIf_eq_some_iff.1 h
      obtain ⟨hflags, hrow⟩ := Bool.and_eq_true_iff.1 hok
      exact ⟨hrow,
        { flags := flags_eq_iff_three.2 ⟨of_decide_eq_true hflags, rfl, rfl, rfl⟩
          homePort := finOf_eq_some_iff.1 hhome
          queryId := readId_eq_some_iff.1 hid
          templateLength := rfl
          template := rfl
          descriptor := finOf_eq_some_iff.1 hd
          slotOffset := rfl
          window := rfl
          retryLimit := rfl
          waitTime := rfl
          defaultSeverity := rfl
          postCount := rfl
          postWindow := rfl }⟩
    · cases h
  · rintro ⟨hok, h⟩
    obtain ⟨hlow, henable, htriggers, hsnap⟩ := flags_eq_iff_three.1 h.flags
    have hhome := finOf_eq_some_iff.2 h.homePort
    have hid := readId_eq_some_iff.2 h.queryId
    have hd := finOf_eq_some_iff.2 h.descriptor
    simp only [decodeStation, hhome, hid, hd, henable, htriggers, hsnap, h.templateLength, h.template,
      h.slotOffset, h.window, h.retryLimit, h.waitTime, h.defaultSeverity, h.postCount, h.postWindow]
    exact keepIf_eq_some_iff.2 ⟨by simp [hlow, hok], rfl⟩

theorem toList_stagedTemplate {bs : List Byte} (h : 15 ≤ bs.length) :
    (stagedTemplate bs).toList = (bs.drop 7).take 8 := by
  refine List.ext_getElem (by simp; omega) fun i hi _ => ?_
  have hi : i < 8 := by simpa using hi
  have hget : (bs.drop 7)[i]? = some (bs.getD (7 + i) 0) := by
    rw [List.getElem?_drop, List.getD_eq_getElem _ _ (by omega), List.getElem?_eq_getElem]
  rw [← Option.some_inj, ← List.getElem?_eq_getElem, ← List.getElem?_eq_getElem,
    List.getElem?_take_of_lt hi, hget]
  interval_cases i <;> rfl

theorem take_drop_eq_template_append_iff {bs ys : List Byte} {n : Nat} {t : Vector Byte 8} (hn : 8 ≤ n)
    (hbs : 7 + n ≤ bs.length) : (bs.drop 7).take n = t.toList ++ ys ↔
      stagedTemplate bs = t ∧ (bs.drop 15).take (n - 8) = ys := by
  have ht : t.toList.length = 8 := by simp
  rw [take_drop_eq_append_iff hbs (by omega), ht, ← toList_stagedTemplate (by omega), Vector.toList_inj]

theorem encodeStation_eq (r : StationRow) : encodeStation r =
    byte (flagBit 1 r.enable + flagBit 2 r.announceTriggers + flagBit 4 r.snapEnable) ::
      byte r.homePort.val :: (bigEndian 4 (idWord r.queryId) ++ byte r.templateLength ::
        (r.template.toList ++ byte r.descriptor.val :: (bigEndian 2 r.slotOffset ++
          [byte r.window, byte r.retryLimit, byte (r.waitTime / 10), byte r.defaultSeverity,
            byte r.postCount, byte (r.postWindow / 10)]))) := by
  simp only [encodeStation, List.append_assoc, List.cons_append, List.nil_append]

/-- The bytes of a row in order spell its fields, one block after the other. -/
theorem StationRow.readsFrom_iff {len : Nat} {bs : List Byte} {r : StationRow} (hbs : 24 ≤ bs.length)
    (hlen : len ≤ 65535) (hok : r.ok len = true) : r.ReadsFrom bs ↔ bs.take 24 = encodeStation r := by
  simp only [StationRow.ok, inRange, Bool.and_eq_true, decide_eq_true_eq] at hok
  have hflags := flagBits_lt r.enable r.announceTriggers r.snapEnable
  have hhome := r.homePort.isLt
  have hd := r.descriptor.isLt
  have hid := idWord_lt r.queryId
  have hslot : r.slotOffset < 256 ^ 2 := by omega
  rw [encodeStation_eq]
  change _ ↔ (bs.drop 0).take 24 = _
  simp (disch := omega) only [take_drop_eq_byte_cons_iff, take_drop_eq_bigEndian_append_iff,
    take_drop_eq_template_append_iff, Nat.reduceAdd, Nat.reduceSub, List.take_zero, and_true]
  constructor
  · rintro ⟨h0, h1, h2, h6, h7, h15, h16, h18, h19, h20, h21, h22, h23⟩
    exact ⟨h0, h1, h2, h6, h7, h15, h16, h18, h19, by omega, h21, h22, by omega⟩
  · rintro ⟨h0, h1, h2, h6, h7, h15, h16, h18, h19, h20, h21, h22, h23⟩
    exact ⟨h0, h1, h2, h6, h7, h15, h16, h18, h19, by omega, h21, h22, by omega⟩

/-! ### PORT rows -/

/-- Each field of a PORT row is what its staged bytes spell (R116, Table 13.7). -/
structure PortRow.ReadsFrom (r : PortRow) (bs : List Byte) : Prop where
  flags : stagedByte bs 0 = flagBit 1 r.enable + flagBit 2 r.listenOnly + flagBit 4 r.autoRecover +
    flagBit 8 r.managementEnable
  bitRate : stagedByte bs 1 = rateCode r.bitRate
  defaultRoute : stagedByte bs 2 = portBits r.defaultRoute
  guardInterval : stagedByte bs 3 = r.guardInterval
  almostFull : stagedByte bs 4 = r.almostFull

theorem decodePort_eq_some_iff {p : Port} {bs : List Byte} {r : PortRow} :
    decodePort p bs = some r ↔ r.ok p = true ∧ r.ReadsFrom bs := by
  constructor
  · intro h
    unfold decodePort at h
    dsimp only at h
    split at h
    · next rate hrate =>
      obtain ⟨hok, rfl⟩ := keepIf_eq_some_iff.1 h
      obtain ⟨hbits, hrow⟩ := Bool.and_eq_true_iff.1 hok
      obtain ⟨hflags, hroute⟩ := Bool.and_eq_true_iff.1 hbits
      exact ⟨hrow,
        { flags := flags_eq_iff_four.2 ⟨of_decide_eq_true hflags, rfl, rfl, rfl, rfl⟩
          bitRate := rateOf_eq_some_iff.1 hrate
          defaultRoute := eq_portBits_iff.2 ⟨of_decide_eq_true hroute, rfl⟩
          guardInterval := rfl
          almostFull := rfl }⟩
    · cases h
  · rintro ⟨hok, h⟩
    obtain ⟨hlow, henable, hlisten, hrecover, hmanage⟩ := flags_eq_iff_four.1 h.flags
    obtain ⟨hbits, hroute⟩ := eq_portBits_iff.1 h.defaultRoute
    have hrate := rateOf_eq_some_iff.2 h.bitRate
    simp only [decodePort, hrate, henable, hlisten, hrecover, hmanage, hroute, h.guardInterval, h.almostFull]
    exact keepIf_eq_some_iff.2 ⟨by simp [hlow, hbits, hok], rfl⟩

theorem PortRow.readsFrom_iff {p : Port} {bs : List Byte} {r : PortRow} (hbs : 5 ≤ bs.length)
    (hok : r.ok p = true) : r.ReadsFrom bs ↔ bs.take 5 = encodePort r := by
  simp only [PortRow.ok, inRange, Bool.and_eq_true, decide_eq_true_eq] at hok
  have hflags := flags_eq_iff_four (a := r.enable) (b := r.listenOnly) (c := r.autoRecover)
    (d := r.managementEnable) |>.1 rfl |>.1
  have hrate : rateCode r.bitRate < 3 := by cases r.bitRate <;> decide
  have hroute := (eq_portBits_iff (ps := r.defaultRoute)).1 rfl |>.1
  unfold encodePort
  change _ ↔ (bs.drop 0).take 5 = _
  simp (disch := omega) only [take_drop_eq_byte_cons_iff, Nat.reduceAdd, Nat.reduceSub, List.take_zero, and_true]
  exact ⟨fun ⟨h0, h1, h2, h3, h4⟩ => ⟨h0, h1, h2, h3, h4⟩, fun ⟨h0, h1, h2, h3, h4⟩ => ⟨h0, h1, h2, h3, h4⟩⟩

/-- Settles O15: a row decodes exactly when its fields are in range and its bytes spell them, block by block. -/
theorem stationAndPortRowsRoundTrip : Obligations.StationAndPortRowsRoundTrip := by
  refine ⟨fun bs r len hbs hlen => ?_, fun bs r p hbs => ?_⟩
  · rw [decodeStation_eq_some_iff]
    exact and_congr_right fun hok => StationRow.readsFrom_iff hbs hlen hok
  · rw [decodePort_eq_some_iff]
    exact and_congr_right fun hok => PortRow.readsFrom_iff hbs hok

end Sys2Proof.Machine

/-! PROOFS. What the checks of the context arbiter ask for: O41. -/

namespace Sys2Proof.Machine

variable {s t : State} {c : ContextNo} {p : Port} {d : Dialogue}

/-! ### The lists that a look goes through -/

theorem allContexts_sorted : allContexts.Pairwise (· < ·) := List.pairwise_lt_finRange 4

theorem allContexts_nodup : allContexts.Nodup := List.nodup_finRange 4

theorem State.contextsOf_nodup (s : State) (p : Port) : (s.contextsOf p).Nodup := allContexts_nodup.filter _

theorem State.mem_contextsOf : c ∈ s.contextsOf p ↔ s.boundTo p c = true := by
  simp [State.contextsOf, allContexts]

theorem State.boundTo_iff : s.boundTo p c = true ↔ ∃ d, s.context c = some d ∧ s.dialoguePort d = p := by
  unfold State.boundTo
  cases s.context c <;> simp

theorem DueQueue.isEmpty_iff {q : DueQueue} : q.isEmpty = true ↔ q.urgent = [] ∧ q.normal = [] := by
  simp [DueQueue.isEmpty]

theorem DueQueue.isEmpty_eq_false_iff {q : DueQueue} : q.isEmpty = false ↔ q.urgent ≠ [] ∨ q.normal ≠ [] := by
  rw [← Bool.not_eq_true, DueQueue.isEmpty_iff, not_and_or]

theorem State.freeContext_eq_none_iff : s.freeContext = none ↔ ∀ c, s.context c ≠ none := by
  simp [State.freeContext, allContexts]

/-! ### The max run check (R94) -/

/-- When a context is to yield by its run: the condition of R94. -/
theorem State.mustYield_iff : s.mustYield d = true ↔ s.general.maxRun ≠ 0 ∧
    s.general.minRun + s.general.maxRun ≤ d.run ∧
    ((s.due (s.dialoguePort d)).urgent ≠ [] ∨ (s.due (s.dialoguePort d)).normal ≠ []) := by
  simp only [State.mustYield, Bool.and_eq_true, decide_eq_true_eq, Bool.not_eq_true',
    DueQueue.isEmpty_eq_false_iff, and_assoc]

theorem maxRunCheck_of_long (hd : s.context c = some d) (h : s.mustYield d = true) :
    maxRunCheck s c = s.askToYield c := by
  simp only [maxRunCheck, hd, h, if_true]

theorem maxRunCheck_of_short (h : ∀ d, s.context c = some d → s.mustYield d = false) : maxRunCheck s c = s := by
  unfold maxRunCheck
  cases hd : s.context c with
  | none => rfl
  | some d => simp only [h d hd, Bool.false_eq_true, if_false]

/-- What a max run check leaves of a context, its own or another one. -/
theorem maxRunCheck_context (s : State) (c c' : ContextNo) : (maxRunCheck s c).context c' =
    if c' = c then (s.context c').map fun d => if s.mustYield d then d.yielding else d else s.context c' := by
  by_cases hlong : ∃ d, s.context c = some d ∧ s.mustYield d = true
  · obtain ⟨d, hd, h⟩ := hlong
    rw [maxRunCheck_of_long hd h, State.askToYield, State.modDialogue_context]
    split
    · next hc => simp [hc, hd, h]
    · rfl
  · have hshort : ∀ d, s.context c = some d → s.mustYield d = false := fun d hd =>
      Bool.eq_false_iff.2 fun h => hlong ⟨d, hd, h⟩
    rw [maxRunCheck_of_short hshort]
    split
    · next hc =>
      subst hc
      cases hd : s.context c' with
      | none => rfl
      | some d => simp [hshort d hd]
    · rfl

theorem maxRunCheck_mustYield (s : State) (c : ContextNo) (d : Dialogue) :
    (maxRunCheck s c).mustYield d = s.mustYield d := by
  obtain ⟨-, htables, -, -, hsurvey, -⟩ := (maxRunCheck_yieldOnly s c).fields
  rw [State.mustYield, State.mustYield, State.general_eq htables, State.dialoguePort, State.dialoguePort,
    State.stationRow_eq htables, State.due_eq hsurvey]

/-- Max run checks of several contexts, each judged in the state that the checks began with. -/
theorem foldl_maxRunCheck_context {l : List ContextNo} (hl : l.Nodup) (c : ContextNo) : ∀ s : State,
    (l.foldl maxRunCheck s).context c =
      if c ∈ l then (s.context c).map fun d => if s.mustYield d then d.yielding else d else s.context c := by
  induction l with
  | nil => simp
  | cons b l ih =>
    obtain ⟨hb, hl⟩ := List.nodup_cons.1 hl
    intro s
    rw [List.foldl_cons, ih hl]
    simp only [maxRunCheck_mustYield, maxRunCheck_context, List.mem_cons]
    by_cases hcb : c = b
    · subst hcb
      simp [hb]
    · simp [hcb]

theorem maxRunChecks_context (s : State) (p : Port) (c : ContextNo) : (maxRunChecks s p).context c =
    if s.boundTo p c then (s.context c).map fun d => if s.mustYield d then d.yielding else d else s.context c := by
  rw [maxRunChecks, foldl_maxRunCheck_context (s.contextsOf_nodup p)]
  simp only [State.mem_contextsOf]

/-! ### The preemption check (R95) -/

/-- An urgent station of the port that no grant can serve (R95). -/
theorem State.starved_iff : s.starved p = true ↔ (s.port p).state.serves = true ∧ (s.due p).urgent ≠ [] ∧
    ((∀ c, s.context c ≠ none) ∨ 2 ≤ (s.contextsOf p).length) := by
  simp only [State.starved, Bool.and_eq_true, Bool.or_eq_true, decide_eq_true_eq, Option.isNone_iff_eq_none,
    State.freeContext_eq_none_iff, Bool.not_eq_true', List.isEmpty_eq_false_iff, and_assoc]

theorem State.mem_candidates : c ∈ s.candidates p ↔ (2 ≤ (s.contextsOf p).length → s.boundTo p c = true) := by
  unfold State.candidates
  split
  · next h => simp [State.mem_contextsOf, h]
  · next h => simp [allContexts, h]

theorem State.candidates_sorted (s : State) (p : Port) : (s.candidates p).Pairwise (· < ·) := by
  unfold State.candidates
  split
  · exact allContexts_sorted.filter _
  · exact allContexts_sorted

theorem State.victimRun_eq_some_iff {r : Nat} : s.victimRun c = some r ↔ ∃ d, s.context c = some d ∧
    s.general.minRun ≤ d.run ∧ d.urgentStart = false ∧ d.yieldPending = false ∧ d.run = r := by
  unfold State.victimRun
  cases s.context c <;> simp [and_assoc]

/-- The better of the best candidate so far and the next one (R95). -/
def State.better (s : State) (best : Option (ContextNo × Nat)) (c : ContextNo) : Option (ContextNo × Nat) :=
  match s.victimRun c, best with
  | none, _ => best
  | some r, none => some (c, r)
  | some r, some (_, rb) => if rb < r then some (c, r) else best

theorem State.largestRun_eq (s : State) (cs : List ContextNo) :
    s.largestRun cs = (cs.foldl s.better none).map Prod.fst := rfl

/-- The context has the run, and no context of the list comes before it: one with a larger run, or a lower-numbered one
with the same (R95). -/
def State.FirstToYield (s : State) (cs : List ContextNo) (c : ContextNo) (r : Nat) : Prop :=
  c ∈ cs ∧ s.victimRun c = some r ∧ ∀ c' ∈ cs, ∀ r', s.victimRun c' = some r' → r' < r ∨ (r' = r ∧ c ≤ c')

/-- What the fold over the candidates finds (R95). -/
theorem foldl_better_spec {cs : List ContextNo} (hcs : cs.Pairwise (· < ·)) :
    (cs.foldl s.better none = none → ∀ c ∈ cs, s.victimRun c = none) ∧
    ∀ c r, cs.foldl s.better none = some (c, r) → s.FirstToYield cs c r := by
  induction cs using List.reverseRecOn with
  | nil => simp
  | append_singleton cs b ih =>
    obtain ⟨hsorted, -, hlast⟩ := List.pairwise_append.1 hcs
    obtain ⟨hnone, hsome⟩ := ih hsorted
    have hbefore : ∀ c ∈ cs, c < b := fun c hc => hlast c hc b (List.mem_singleton_self b)
    rw [List.foldl_append, List.foldl_cons, List.foldl_nil]
    generalize cs.foldl s.better none = best at hnone hsome
    unfold State.FirstToYield State.better at *
    cases hb : s.victimRun b with
    | none => grind
    | some rb =>
      cases best with
      | none => grind
      | some x => grind

theorem State.largestRun_eq_some_iff {cs : List ContextNo} (hcs : cs.Pairwise (· < ·)) :
    s.largestRun cs = some c ↔ ∃ r, s.FirstToYield cs c r := by
  obtain ⟨hnone, hsome⟩ := foldl_better_spec (s := s) hcs
  rw [State.largestRun_eq]
  constructor
  · intro h
    obtain ⟨⟨c', r⟩, hfold, rfl⟩ := Option.map_eq_some_iff.1 h
    exact ⟨r, hsome c' r hfold⟩
  · rintro ⟨r, hmem, hrun, hbest⟩
    cases hfold : cs.foldl s.better none with
    | none => simp [hnone hfold c hmem] at hrun
    | some x =>
      obtain ⟨hmem', hrun', hbest'⟩ := hsome x.1 x.2 hfold
      have h := hbest x.1 hmem' x.2 hrun'
      have h' := hbest' c hmem r hrun
      have heq : x.1 = c := by
        rcases h with h | ⟨heq, hle⟩
        · omega
        · rcases h' with h' | ⟨-, hle'⟩
          · omega
          · exact le_antisymm hle' hle
      exact congrArg some heq

theorem State.someYield_eq_false_iff : s.someYield = false ↔
    ∀ c d, s.context c = some d → d.yieldPending = false := by
  simp only [State.someYield, List.any_eq_false, allContexts, List.mem_finRange, true_implies]
  refine forall_congr' fun c => ?_
  cases s.context c <;> simp

/-- The preemption check has the victim of R95. -/
theorem State.preemptionVictim_eq_some_iff : s.preemptionVictim = some c ↔
    (∀ c' d', s.context c' = some d' → d'.yieldPending = false) ∧
    ∃ p r, (∃ before behind, s.scanOrder = before ++ p :: behind ∧ ∀ q ∈ before, ¬ s.starved q = true) ∧
      s.starved p = true ∧ s.FirstToYield (s.candidates p) c r := by
  have hlargest := fun p => s.largestRun_eq_some_iff (c := c) (s.candidates_sorted p)
  unfold State.preemptionVictim
  rw [← State.someYield_eq_false_iff]
  cases hyield : s.someYield with
  | true => simp
  | false =>
    simp only [Bool.false_eq_true, if_false, true_and]
    constructor
    · intro h
      split at h
      · next p hp =>
        obtain ⟨hstarved, before, behind, hscan, hbefore⟩ := List.find?_eq_some_iff_append.1 hp
        obtain ⟨r, hr⟩ := (hlargest p).1 h
        exact ⟨p, r, ⟨before, behind, hscan, fun q hq => by simpa using hbefore q hq⟩, hstarved, hr⟩
      · cases h
    · rintro ⟨p, r, ⟨before, behind, hscan, hbefore⟩, hstarved, hr⟩
      have hp : s.scanOrder.find? s.starved = some p :=
        List.find?_eq_some_iff_append.2 ⟨hstarved, before, behind, hscan, fun q hq => by simpa using hbefore q hq⟩
      rw [hp]
      exact (hlargest p).2 ⟨r, hr⟩

theorem preemptionCheck_of_victim (h : s.preemptionVictim = some c) : preemptionCheck s = s.askToYield c := by
  simp only [preemptionCheck, h]

theorem preemptionCheck_of_none (h : s.preemptionVictim = none) : preemptionCheck s = s := by
  simp only [preemptionCheck, h]

theorem lookCheck_eq (s : State) : lookCheck s = if s.nextGrant = none then preemptionCheck s else s := by
  unfold lookCheck
  cases s.nextGrant <;> simp

theorem settleLook_eq (s before : State) : settleLook s before =
    if before.nextGrant ≠ none ∧ s.nextGrant = none then preemptionCheck s else s := by
  unfold settleLook
  cases s.nextGrant <;> cases before.nextGrant <;> simp

/-- Settles O41: the max run checks judge each context as it stood, and the fold over the candidates finds the one that
no other comes before. -/
theorem preemptionAsksTheLargestRun : Obligations.PreemptionAsksTheLargestRun := by
  intro s asked long starving mayYield
  have hlong : ∀ c, long c ↔ ∃ d, s.context c = some d ∧ s.mustYield d = true := fun c => by
    simp only [long, State.mustYield_iff]
  have hstarving : ∀ p, starving p ↔ s.starved p = true := fun p => State.starved_iff.symm
  have hmay : ∀ p c r, (∃ d, mayYield p c d ∧ d.run = r) ↔ c ∈ s.candidates p ∧ s.victimRun c = some r := by
    intro p c r
    simp only [mayYield, State.mem_candidates, State.victimRun_eq_some_iff]
    grind
  refine ⟨fun c => ⟨fun h => ?_, fun h => ?_⟩, fun p => ⟨maxRunChecks_yieldOnly s p, fun c =>
    ⟨fun hb h => ?_, fun h => ?_⟩⟩,
    fun st => ⟨rfl, rfl⟩, rfl, fun c => ?_, fun c => preemptionCheck_of_victim, preemptionCheck_of_none, lookCheck_eq s,
    settleLook_eq s⟩
  · obtain ⟨d, hd, hmust⟩ := (hlong c).1 h
    exact maxRunCheck_of_long hd hmust
  · exact maxRunCheck_of_short fun d hd => Bool.eq_false_iff.2 fun hmust => h ((hlong c).2 ⟨d, hd, hmust⟩)
  · obtain ⟨d, hd, hmust⟩ := (hlong c).1 h
    simp [maxRunChecks_context, asked, hb, hd, hmust]
  · rw [maxRunChecks_context]
    rcases h with hb | h
    · simp [hb]
    · cases hd : s.context c with
      | none => simp
      | some d =>
        have hmust : s.mustYield d = false := Bool.eq_false_iff.2 fun hmust => h ((hlong c).2 ⟨d, hd, hmust⟩)
        simp [hmust]
  · rw [State.preemptionVictim_eq_some_iff]
    simp only [hstarving]
    refine and_congr_right fun _ => ⟨?_, ?_⟩
    · rintro ⟨p, r, hscan, hstarved, hmem, hrun, hbest⟩
      obtain ⟨d, hd, rfl⟩ := (hmay p c r).2 ⟨hmem, hrun⟩
      refine ⟨p, d, hscan, hstarved, hd, fun c' d' hd' => ?_⟩
      obtain ⟨hmem', hrun'⟩ := (hmay p c' d'.run).1 ⟨d', hd', rfl⟩
      exact hbest c' hmem' d'.run hrun'
    · rintro ⟨p, d, hscan, hstarved, hd, hbest⟩
      obtain ⟨hmem, hrun⟩ := (hmay p c d.run).1 ⟨d, hd, rfl⟩
      refine ⟨p, d.run, hscan, hstarved, hmem, hrun, fun c' hmem' r' hrun' => ?_⟩
      obtain ⟨d', hd', rfl⟩ := (hmay p c' r').2 ⟨hmem', hrun'⟩
      exact hbest c' d' hd'

end Sys2Proof.Machine

/-! PROOFS. Which query belongs to which dialogue, and what may be done to that: O9. -/

namespace Sys2Proof.Machine

/-! ### The wiring -/

/-- What R81 and R135 know of a dialogue: whether it is in SENDING, the tag of its grant, and its port. -/
structure Link where
  sending : Bool
  tag : Nat
  port : Port

/-- What R81 and R135 speak of: the link of each bound context, the harvest output of each port, the query in its
transmitter, and the count of grants. -/
structure Wiring where
  link : ContextNo → Option Link
  harvest : Port → List Query
  tx : Port → Option Query
  grants : Nat

/-- The link of a dialogue. -/
def State.linkOf (s : State) (d : Dialogue) : Link :=
  { sending := decide (d.phase = .sending), tag := d.grantTag, port := s.dialoguePort d }

/-- The wiring of a state. -/
def State.wiring (s : State) : Wiring where
  link c := (s.context c).map s.linkOf
  harvest p := (s.port p).harvest
  tx p := Laws.txQuery (s.port p)
  grants := s.engine.grants

/-- The query is that of a context in SENDING for the same grant, with its station at the port (R81). -/
def Wiring.Live (w : Wiring) (p : Port) (q : Query) : Prop :=
  w.link q.context = some { sending := true, tag := q.grantTag, port := p }

/-- Queries and dialogues agree, but that the contexts of the port `off`, if there is one, may lack their query: they
are about to end with their port (R81, R99, R135). -/
structure Wiring.OkOff (w : Wiring) (off : Option Port) : Prop where
  nodup : ∀ p, ((w.harvest p).map Query.context).Nodup
  live : ∀ p, ∀ q ∈ w.harvest p, w.Live p q
  tx_lt : ∀ p q, w.tx p = some q → q.grantTag < w.grants
  tx_live : ∀ p q l, w.tx p = some q → w.link q.context = some l → l.tag = q.grantTag →
    w.Live p q ∧ ∀ q' ∈ w.harvest p, q'.context ≠ q.context
  tag_lt : ∀ c l, w.link c = some l → l.tag < w.grants
  asked : ∀ c l, w.link c = some l → l.sending = true → off ≠ some l.port →
    ∃ q, q.context = c ∧ q.grantTag = l.tag ∧ (q ∈ w.harvest l.port ∨ w.tx l.port = some q)

variable {s t u : State} {w : Wiring} {c : ContextNo} {p : Port} {q : Query} {l : Link} {off : Option Port}

/-! ### The wiring and `HarvestOk` -/

theorem State.wiring_link : s.wiring.link c = some l ↔ ∃ d, s.context c = some d ∧ s.linkOf d = l :=
  Option.map_eq_some_iff

theorem State.wiring_link_of_context {d : Dialogue} (h : s.context c = some d) :
    s.wiring.link c = some (s.linkOf d) := State.wiring_link.2 ⟨d, h, rfl⟩

theorem State.wiring_tx : s.wiring.tx p = some q ↔ (s.port p).tx = some (.query q) :=
  ⟨Laws.of_txQuery, Laws.txQuery_of⟩

theorem State.queryLive_iff : s.queryLive p q ↔ s.wiring.Live p q := by
  rw [Wiring.Live, State.wiring_link]
  simp only [State.queryLive, State.linkOf, Link.mk.injEq, decide_eq_true_eq]

/-- The wiring is in order when every query of the state is. -/
theorem harvestOk_iff : HarvestOk s ↔ s.wiring.OkOff none := by
  constructor
  · rintro ⟨hports, hcontexts⟩
    refine ⟨fun p => (hports p).1, fun p q hq => State.queryLive_iff.1 ((hports p).2.1 q hq),
      fun p q hq => ((hports p).2.2 q (State.wiring_tx.1 hq)).1, fun p q l hq hl htag => ?_, fun c l hl => ?_,
      fun c l hl hsending _ => ?_⟩
    · obtain ⟨d, hd, rfl⟩ := State.wiring_link.1 hl
      rw [← State.queryLive_iff]
      exact ((hports p).2.2 q (State.wiring_tx.1 hq)).2 d hd htag
    · obtain ⟨d, hd, rfl⟩ := State.wiring_link.1 hl
      exact (hcontexts c d hd).1
    · obtain ⟨d, hd, rfl⟩ := State.wiring_link.1 hl
      simp only [State.wiring_tx]
      exact (hcontexts c d hd).2 (of_decide_eq_true hsending)
  · intro h
    refine ⟨fun p => ⟨h.nodup p, fun q hq => State.queryLive_iff.2 (h.live p q hq), fun q hq => ?_⟩, fun c d hd => ?_⟩
    · refine ⟨h.tx_lt p q (State.wiring_tx.2 hq), fun d hd htag => ?_⟩
      rw [State.queryLive_iff]
      exact h.tx_live p q _ (State.wiring_tx.2 hq) (State.wiring_link_of_context hd) htag
    · have hl := State.wiring_link_of_context hd
      refine ⟨h.tag_lt c _ hl, fun hsending => ?_⟩
      simp only [← State.wiring_tx]
      exact h.asked c _ hl (decide_eq_true hsending) nofun

/-! ### Changes of a wiring -/

/-- The context is FREE and its queries have left the harvest outputs (R97). -/
def Wiring.release (w : Wiring) (c : ContextNo) : Wiring :=
  { w with
    link := Function.update w.link c none
    harvest := fun p => (w.harvest p).filter fun q => q.context ≠ c }

/-- The query joins the harvest output of the port, and its context is in SENDING for its grant (R80, R81). -/
def Wiring.ask (w : Wiring) (p : Port) (q : Query) : Wiring :=
  { w with
    link := Function.update w.link q.context (some { sending := true, tag := q.grantTag, port := p })
    harvest := Function.update w.harvest p (w.harvest p ++ [q]) }

/-- The query in the transmitter of the port has been sent, and its context, if it is still in SENDING for the same
grant, awaits its header (R81). -/
def Wiring.sent (w : Wiring) (p : Port) (q : Query) : Wiring :=
  { w with
    link := fun c => if c = q.context then
        (w.link c).map fun l =>
          if l.sending = true ∧ l.tag = q.grantTag then { l with sending := false } else l
      else w.link c
    tx := Function.update w.tx p none }

/-- The query at the head of the port's harvest output is placed in the transmitter (R139). -/
def Wiring.place (w : Wiring) (p : Port) (q : Query) (rest : List Query) : Wiring :=
  { w with
    harvest := Function.update w.harvest p rest
    tx := Function.update w.tx p (some q) }

/-- The port's harvest output and transmitter are emptied (R122, R125). -/
def Wiring.silence (w : Wiring) (p : Port) : Wiring :=
  { w with
    harvest := Function.update w.harvest p []
    tx := Function.update w.tx p none }

theorem Wiring.OkOff.release (h : w.OkOff off) (c : ContextNo) : (w.release c).OkOff off := by
  obtain ⟨hnodup, hlive, hlt, htx, htag, hasked⟩ := h
  refine ⟨fun p => ?_, fun p q hq => ?_, hlt, fun p q l hq hl hqt => ?_, fun c' l hl => ?_,
    fun c' l hl hsending hoff => ?_⟩
  · exact (hnodup p).sublist (List.filter_sublist.map _)
  · simp only [Wiring.release, List.mem_filter, decide_eq_true_eq] at hq
    rw [Wiring.Live]
    simp only [Wiring.release, Function.update_of_ne hq.2]
    exact hlive p q hq.1
  all_goals
    simp only [Wiring.release, Wiring.Live, Function.update_apply, List.mem_filter, decide_eq_true_eq] at *
    grind

/-- A context that is not in SENDING has no query in a harvest output. -/
theorem Wiring.OkOff.not_asked (h : w.OkOff off) (hc : ∀ l, w.link c = some l → l.sending = false) :
    ∀ p, ∀ q ∈ w.harvest p, q.context ≠ c := by
  rintro p q hq rfl
  cases hc _ (h.live p q hq)

theorem Wiring.OkOff.ask_nodup (h : w.OkOff off) (hnot : ∀ p', ∀ q' ∈ w.harvest p', q'.context ≠ q.context)
    (p p' : Port) : (((w.ask p q).harvest p').map Query.context).Nodup := by
  have := h.nodup p'
  have := hnot p'
  simp only [Wiring.ask, Function.update_apply]
  split
  · next heq => subst heq; grind
  · assumption

/-- A context that is not in SENDING sends its query again. -/
theorem Wiring.OkOff.ask_again (h : w.OkOff off) (hl : w.link q.context = some l) (hsending : l.sending = false)
    (htag : l.tag = q.grantTag) : (w.ask p q).OkOff off := by
  have hnot := h.not_asked (c := q.context) fun l' hl' => by
    cases hl.symm.trans hl'
    exact hsending
  have hnodup := h.ask_nodup hnot p
  obtain ⟨-, hlive, hlt, htx, htags, hasked⟩ := h
  refine ⟨hnodup, fun p' q' hq' => ?_, hlt, fun p' q' l' hq' hl' hqt => ?_, fun c' l hl => ?_,
    fun c' l hl hsending hoff => ?_⟩
  all_goals
    simp only [Wiring.ask, Wiring.Live, Function.update_apply] at *
    grind

/-- A FREE context is granted, with a tag that no grant before it has had, and sends its first query. -/
theorem Wiring.OkOff.ask_first (h : w.OkOff off) (hfree : w.link q.context = none) (htag : q.grantTag = w.grants) :
    Wiring.OkOff { w.ask p q with grants := w.grants + 1 } off := by
  have hnot := h.not_asked (c := q.context) fun l hl => by cases hfree.symm.trans hl
  have hnodup := h.ask_nodup hnot p
  obtain ⟨-, hlive, hlt, htx, htags, hasked⟩ := h
  refine ⟨hnodup, fun p' q' hq' => ?_, fun p q hq => (hlt p q hq).trans (Nat.lt_succ_self _),
    fun p' q' l' hq' hl' hqt => ?_, fun c' l hl => ?_, fun c' l hl hsending hoff => ?_⟩
  all_goals
    simp only [Wiring.ask, Wiring.Live, Function.update_apply] at *
    grind

/-- A query that is sent was that of a context in SENDING for the same grant, or belongs to no dialogue any more. -/
theorem Wiring.OkOff.sent_link (h : w.OkOff off) (hq : w.tx p = some q) :
    (w.link q.context = some { sending := true, tag := q.grantTag, port := p } ∧
      (∀ p', ∀ q' ∈ w.harvest p', q'.context ≠ q.context) ∧ (w.sent p q).link =
        Function.update w.link q.context (some { sending := false, tag := q.grantTag, port := p })) ∨
    (∀ l, w.link q.context = some l → l.tag ≠ q.grantTag) ∧ (w.sent p q).link = w.link := by
  by_cases hown : ∃ l, w.link q.context = some l ∧ l.tag = q.grantTag
  · obtain ⟨l, hl, htag⟩ := hown
    obtain ⟨hlive, hnot⟩ := h.tx_live p q l hq hl htag
    refine .inl ⟨hlive, fun p' q' hq' hc => ?_, funext fun c => ?_⟩
    · have hlive' := h.live p' q' hq'
      rw [Wiring.Live, hc, hlive, Option.some.injEq, Link.mk.injEq] at hlive'
      obtain ⟨-, -, rfl⟩ := hlive'
      exact hnot q' hq' hc
    · rw [Wiring.Live] at hlive
      simp only [Wiring.sent, Function.update_apply]
      grind
  · have hother : ∀ l, w.link q.context = some l → l.tag ≠ q.grantTag := fun l hl htag => hown ⟨l, hl, htag⟩
    refine .inr ⟨hother, funext fun c => ?_⟩
    simp only [Wiring.sent]
    split
    · next hc =>
      subst hc
      cases hl : w.link q.context with
      | none => rfl
      | some l => simp [hother l hl]
    · rfl

theorem Wiring.OkOff.sent (h : w.OkOff off) (hq : w.tx p = some q) : (w.sent p q).OkOff off := by
  have hlink := h.sent_link hq
  obtain ⟨hnodup, hlive, hlt, htx, htags, hasked⟩ := h
  have hharvest : (w.sent p q).harvest = w.harvest := rfl
  have htransmit : (w.sent p q).tx = Function.update w.tx p none := rfl
  have hgrants : (w.sent p q).grants = w.grants := rfl
  rcases hlink with ⟨hown, hnot, hlink⟩ | ⟨hother, hlink⟩
  all_goals
    refine ⟨hnodup, fun p' q' hq' => ?_, fun p' q' hq' => ?_, fun p' q' l' hq' hl' hqt => ?_, fun c' l hl => ?_,
      fun c' l hl hsending hoff => ?_⟩
  all_goals
    simp only [Wiring.Live, hlink, hharvest, htransmit, hgrants, Function.update_apply] at *
    grind

theorem Wiring.OkOff.place {rest : List Query} (h : w.OkOff off) (hq : w.harvest p = q :: rest) (htx : w.tx p = none) :
    (w.place p q rest).OkOff off := by
  obtain ⟨hnodup, hlive, hlt, htx', htags, hasked⟩ := h
  have hnod := hnodup p
  have hl := hlive p
  refine ⟨fun p' => ?_, fun p' q' hq' => ?_, fun p' q' hq' => ?_, fun p' q' l' hq' hl' hqt => ?_, htags,
    fun c' l hl => ?_⟩
  all_goals
    simp only [Wiring.place, Wiring.Live, Function.update_apply] at *
    grind

theorem Wiring.OkOff.silence (h : w.OkOff none) (p : Port) : (w.silence p).OkOff (some p) := by
  obtain ⟨hnodup, hlive, hlt, htx, htags, hasked⟩ := h
  refine ⟨fun p' => ?_, fun p' q' hq' => ?_, fun p' q' hq' => ?_, fun p' q' l' hq' hl' hqt => ?_, htags,
    fun c' l hl => ?_⟩
  all_goals
    simp only [Wiring.silence, Wiring.Live, Function.update_apply] at *
    grind

/-- Once every dialogue of the port has ended, all queries and dialogues agree again (R99). -/
theorem Wiring.OkOff.none_of_lost (h : w.OkOff (some p)) (hlost : ∀ c l, w.link c = some l → l.port ≠ p) :
    w.OkOff none := by
  refine ⟨h.nodup, h.live, h.tx_lt, h.tx_live, h.tag_lt, fun c l hl hsending _ => h.asked c l hl hsending fun hp => ?_⟩
  exact hlost c l hl (Option.some.inj hp).symm

/-- With every context FREE and every query gone, the wiring is in order. -/
theorem Wiring.OkOff.of_silent (hlink : ∀ c, w.link c = none) (hharvest : ∀ p, w.harvest p = [])
    (htx : ∀ p, w.tx p = none) : w.OkOff off := by
  refine ⟨fun p => ?_, fun p q hq => ?_, fun p q hq => ?_, fun p q l hq => ?_, fun c l hl => ?_, fun c l hl => ?_⟩
  · simp [hharvest]
  · simp [hharvest] at hq
  · simp [htx] at hq
  · simp [htx] at hq
  · simp [hlink] at hl
  · simp [hlink] at hl

end Sys2Proof.Machine

/-! PROOFS. The operations that leave the wiring, and of the dialogues ask at most some to yield: O9. -/

namespace Sys2Proof.Machine

variable {s t u : State} {c : ContextNo} {p : Port} {d : Dialogue} {n : StationNo}

/-! ### What an operation asks -/

/-- Two wirings are the same when they agree field by field. -/
theorem Wiring.eq_of_fields {w w' : Wiring} (link : ∀ c, w.link c = w'.link c := by intros; rfl)
    (harvest : ∀ p, w.harvest p = w'.harvest p := by intros; rfl) (tx : ∀ p, w.tx p = w'.tx p := by intros; rfl)
    (grants : w.grants = w'.grants := by rfl) : w = w' := by
  obtain ⟨⟩ := w
  obtain ⟨⟩ := w'
  rw [Wiring.mk.injEq]
  exact ⟨funext link, funext harvest, funext tx, grants⟩

/-- The wiring is left, and so is every dialogue, but that one whose run has reached min run may be asked to yield (R94,
R95). -/
structure State.Asks (s t : State) : Prop where
  wiring : t.wiring = s.wiring
  minRun : t.general.minRun = s.general.minRun
  contexts : ∀ c, t.context c = s.context c ∨
    ∃ d, s.context c = some d ∧ s.general.minRun ≤ d.run ∧ t.context c = some d.yielding

theorem State.Asks.refl (s : State) : s.Asks s := ⟨rfl, rfl, fun _ => .inl rfl⟩

theorem State.Asks.trans (h : s.Asks t) (k : t.Asks u) : s.Asks u := by
  refine ⟨k.wiring.trans h.wiring, k.minRun.trans h.minRun, fun c => ?_⟩
  rcases k.contexts c with hu | ⟨e, he, hrun, hu⟩
  · rw [hu]
    exact h.contexts c
  · rcases h.contexts c with ht | ⟨d, hd, hrun', ht⟩
    · exact .inr ⟨e, ht ▸ he, h.minRun ▸ hrun, hu⟩
    · obtain rfl : d.yielding = e := Option.some.inj (ht.symm.trans he)
      exact .inr ⟨d, hd, hrun', hu⟩

/-- The wiring reads the STATION rows, the ports and the dialogue engine. -/
theorem State.wiring_eq (hrows : t.tables.stations = s.tables.stations) (hports : t.ports = s.ports)
    (hengine : t.engine = s.engine) : t.wiring = s.wiring := by
  have hlink : t.linkOf = s.linkOf := by
    funext d
    simp only [State.linkOf, State.dialoguePort, State.stationRow, hrows]
  simp only [State.wiring, State.context, State.port, hlink, hports, hengine]

theorem State.Asks.of_same (htables : t.tables = s.tables) (hports : t.ports = s.ports)
    (hengine : t.engine = s.engine) : s.Asks t :=
  ⟨State.wiring_eq (congrArg Tables.stations htables) hports hengine, by rw [State.general_eq htables],
    fun c => .inl (State.context_eq hengine c)⟩

/-- The wiring may be read after a change that leaves tables, ports and dialogue engine. -/
theorem State.Asks.after (k : u.Asks t) (htables : u.tables = s.tables := by rfl) (hports : u.ports = s.ports := by rfl)
    (hengine : u.engine = s.engine := by rfl) : s.Asks t := (State.Asks.of_same htables hports hengine).trans k

/-- The wiring may be read before such a change. -/
theorem State.Asks.before (k : s.Asks t) (htables : u.tables = t.tables := by rfl)
    (hports : u.ports = t.ports := by rfl) (hengine : u.engine = t.engine := by rfl) : s.Asks u :=
  k.trans (.of_same htables hports hengine)

theorem foldl_asks {β : Type} (f : State → β → State) (h : ∀ (s : State) b, s.Asks (f s b)) (l : List β) :
    ∀ s : State, s.Asks (l.foldl f s) := by
  induction l with
  | nil => exact fun s => .refl s
  | cons b l ih => exact fun s => (h s b).trans (ih _)

/-! ### The checks of the context arbiter -/

/-- A yield-pending flag is no part of a link. -/
theorem State.YieldOnly.wiring (h : s.YieldOnly t) : t.wiring = s.wiring := by
  obtain ⟨-, htables, -, -, -, hports, -, -, -, -, -, -, -, hgrants⟩ := h.fields
  have hlink : t.linkOf = s.linkOf := by
    funext d
    simp only [State.linkOf, State.dialoguePort, State.stationRow_eq htables]
  refine Wiring.eq_of_fields (fun c => ?_) (fun p => ?_) (fun p => ?_) hgrants
  · simp only [State.wiring, hlink]
    rcases h.2 c with hc | hc <;> rw [hc]
    cases s.context c <;> rfl
  · exact congrArg PortUnit.harvest (State.port_eq hports p)
  · exact congrArg Laws.txQuery (State.port_eq hports p)

theorem askToYield_asks (hd : s.context c = some d) (hrun : s.general.minRun ≤ d.run) : s.Asks (s.askToYield c) := by
  refine ⟨(askToYield_yieldOnly s c).wiring, rfl, fun c' => ?_⟩
  rw [State.askToYield, State.modDialogue_context]
  split
  · next hc =>
    subst hc
    exact .inr ⟨d, hd, hrun, by rw [hd]; rfl⟩
  · exact .inl rfl

theorem maxRunCheck_asks (s : State) (c : ContextNo) : s.Asks (maxRunCheck s c) := by
  unfold maxRunCheck
  split
  · next d hd =>
    split
    · next hmust =>
      obtain ⟨-, hrun, -⟩ := State.mustYield_iff.1 hmust
      exact askToYield_asks hd (le_of_add_le_left hrun)
    · exact .refl s
  · exact .refl s

theorem maxRunChecks_asks (s : State) (p : Port) : s.Asks (maxRunChecks s p) := foldl_asks _ maxRunCheck_asks _ s

theorem preemptionCheck_asks (s : State) : s.Asks (preemptionCheck s) := by
  unfold preemptionCheck
  split
  · next c hc =>
    obtain ⟨-, p, r, -, -, -, hrun, -⟩ := State.preemptionVictim_eq_some_iff.1 hc
    obtain ⟨d, hd, hmin, -⟩ := State.victimRun_eq_some_iff.1 hrun
    exact askToYield_asks hd hmin
  · exact .refl s

theorem lookCheck_asks (s : State) : s.Asks (lookCheck s) := by
  unfold lookCheck
  split
  · exact .refl s
  · exact preemptionCheck_asks s

theorem settleLook_asks (s before : State) : s.Asks (settleLook s before) := by
  unfold settleLook
  split
  · exact preemptionCheck_asks s
  · exact .refl s

/-! ### Due queues, slot events, rounds and key-on events -/

theorem joinNormal_asks (s : State) (st : StationNo) : s.Asks (joinNormal s st) :=
  (maxRunChecks_asks _ _).after

theorem joinUrgent_asks (s : State) (st : StationNo) : s.Asks (joinUrgent s st) :=
  (maxRunChecks_asks _ _).after

theorem makeUrgent_asks (s : State) (st : StationNo) : s.Asks (makeUrgent s st) := by
  unfold makeUrgent
  split
  · exact (joinUrgent_asks s st).trans (lookCheck_asks _)
  · split
    · exact .refl s
    · exact (lookCheck_asks (moveUrgent s st)).after
  · exact .refl s

theorem urgencyRequest_asks (s : State) (st : StationNo) : s.Asks (urgencyRequest s st) := by
  unfold urgencyRequest
  split
  · exact makeUrgent_asks s st
  · exact .refl s

theorem slotEvent_asks (s : State) (st : StationNo) : s.Asks (slotEvent s st) := by
  unfold slotEvent
  split
  · exact .refl s
  · split
    · exact (joinNormal_asks s st).trans (lookCheck_asks _)
    all_goals exact .of_same rfl rfl rfl

theorem slotEvents_asks (s : State) : s.Asks (slotEvents s) := by
  refine foldl_asks _ (fun t st => ?_) _ s
  split
  · exact slotEvent_asks t st
  · exact .refl t

theorem startRound_asks (s : State) : s.Asks (startRound s) := (slotEvents_asks _).after

theorem endRound_asks (s : State) : s.Asks (endRound s) := by
  unfold endRound
  split
  · exact (startRound_asks _).after
  · exact .of_same rfl rfl rfl

theorem raiseRound_asks (s : State) : s.Asks (raiseRound s) := by
  unfold raiseRound
  dsimp only
  split
  · exact (slotEvents_asks _).after
  · exact .of_same rfl rfl rfl

theorem surveyKeyOn_asks (s : State) : s.Asks (surveyKeyOn s) := by
  have hbase : s.Asks (s.modSurvey fun v => { v with grace := none, roundNumber := 0, roundTimer := 0 }) :=
    .of_same rfl rfl rfl
  unfold surveyKeyOn
  dsimp only
  split
  · exact hbase.trans (startRound_asks _)
  · exact hbase.trans (startRound_asks _)
  · exact hbase
  · exact hbase

theorem keyOnEvent_asks (s : State) : s.Asks (keyOnEvent s) :=
  ((surveyKeyOn_asks (s.modClock _)).after (s := s)).before

theorem keyOnAtStart_asks (s : State) : s.Asks (keyOnAtStart s) := by
  unfold keyOnAtStart
  split
  · exact keyOnEvent_asks s
  · exact .refl s

/-! ### Merges and outcomes -/

theorem handOff_asks (s : State) (seq : Nat) (m : Merge) : s.Asks (handOff s seq m) := by
  unfold handOff
  dsimp only
  split
  · exact (urgencyRequest_asks _ _).after
  · exact .of_same rfl rfl rfl

theorem createEntry_asks (s : State) (m : Merge) : s.Asks (createEntry s m) :=
  (handOff_asks _ _ m).after

theorem evict_asks (s : State) (v : Entry) : s.Asks (evict s v) := by
  apply State.Asks.of_same <;> simp

theorem newKeyMerge_asks (s : State) (m : Merge) : s.Asks (newKeyMerge s m) := by
  unfold newKeyMerge
  (repeat' split)
  · exact .of_same rfl rfl rfl
  · exact createEntry_asks s m
  · exact createEntry_asks s m
  · exact (evict_asks s _).trans (createEntry_asks _ m)
  · exact .of_same rfl rfl rfl

theorem takeMerge_asks (s : State) (m : Merge) : s.Asks (takeMerge s m) := by
  unfold takeMerge
  dsimp only
  (repeat' split)
  · exact newKeyMerge_asks s m
  · exact (handOff_asks _ _ m).after
  · exact .of_same rfl rfl rfl

theorem recordOutcome_asks (s : State) (d : Dialogue) (o : Closing) : s.Asks (recordOutcome s d o) := by
  unfold recordOutcome
  cases o with
  | suspended =>
    dsimp only
    split
    · exact (joinNormal_asks _ _).after
    · exact .of_same rfl rfl rfl
  | complete | short | abandoned | cut | portLost => exact .of_same rfl rfl rfl

/-! ### Rows in force -/

/-- A row that no bound station has may be put in force (R57, R158, R159). -/
theorem applyStationRow_asks (hfree : ∀ c d, s.context c = some d → d.station ≠ n) (row : StationRow) :
    s.Asks (applyStationRow s n row) := by
  set rowed := (s.modTables fun t => { t with stations := modifyAt t.stations n fun _ => row }) with hrowed
  have hrows : s.Asks rowed := by
    refine ⟨Wiring.eq_of_fields (link := fun c => ?_), rfl, fun c => .inl rfl⟩
    change (s.context c).map rowed.linkOf = (s.context c).map s.linkOf
    cases hd : s.context c with
    | none => rfl
    | some d =>
      have hrow : rowed.stationRow d.station = s.stationRow d.station := by
        simp [hrowed, State.stationRow, hfree c d hd]
      simp only [Option.map_some, State.linkOf, State.dialoguePort, hrow]
  unfold applyStationRow
  dsimp only
  split
  · exact hrows.before
  · exact hrows.trans (settleLook_asks _ s).after

theorem applyPending_asks {pc : PendingCommit} (hok : s.roster.Ok) (hfree : ¬ s.roster.Waits pc) :
    s.Asks (applyPending s pc) := by
  cases pc with
  | station n row =>
    refine applyStationRow_asks (fun c d hd hn => hok.not_bound hfree c ?_) row
    rw [← hn]
    exact State.roster_bound_of_context hd
  | format n row => exact ⟨State.wiring_eq rfl rfl rfl, rfl, fun c => .inl rfl⟩

theorem releasePending_asks (hok : s.roster.Ok) : s.Asks (releasePending s) := by
  unfold releasePending
  split
  · exact .refl s
  · split
    · exact .refl s
    · next pc _ hwaits =>
      refine (applyPending_asks (s := s.uncommitted) (hok.withCommit none) fun h => ?_).after
      exact hwaits (commitWaits_iff.2 (Roster.waits_withCommit.1 h))

theorem applyOrDefer_asks (hok : s.roster.Ok) (pc : Option PendingCommit) : s.Asks (applyOrDefer s pc).state := by
  unfold applyOrDefer
  split
  · exact .refl s
  · split
    · exact .of_same rfl rfl rfl
    · next hwaits => exact applyPending_asks hok fun h => hwaits (commitWaits_iff.2 h)

/-! ### Ports -/

/-- A change of a port that leaves its harvest output and the query in its transmitter as they stand. -/
theorem modPort_asks_of_port {f : PortUnit → PortUnit} (hharvest : (f (s.port p)).harvest = (s.port p).harvest)
    (htx : Laws.txQuery (f (s.port p)) = Laws.txQuery (s.port p)) : s.Asks (s.modPort p f) := by
  refine ⟨Wiring.eq_of_fields (harvest := fun q => ?_) (tx := fun q => ?_), rfl, fun c => .inl rfl⟩
  · change ((s.modPort p f).port q).harvest = (s.port q).harvest
    rw [State.modPort_port]
    split
    · next hq => exact hq ▸ hharvest
    · rfl
  · change Laws.txQuery ((s.modPort p f).port q) = Laws.txQuery (s.port q)
    rw [State.modPort_port]
    split
    · next hq => exact hq ▸ htx
    · rfl

theorem modPort_asks {f : PortUnit → PortUnit} (hharvest : ∀ x, (f x).harvest = x.harvest)
    (htx : ∀ x, Laws.txQuery (f x) = Laws.txQuery x) : s.Asks (s.modPort p f) :=
  modPort_asks_of_port (hharvest _) (htx _)

/-- A move between ACTIVE and PASSIVE asks at most for a yield (R77, R95, R120). -/
theorem changeErrors_asks_moved (s : State) (p : Port) (f : PortUnit → PortUnit) :
    (s.modPort p fun x => { f x with state := (f x).confined }).Asks (changeErrors s p f) := by
  unfold changeErrors
  dsimp only
  split
  · exact .refl _
  · exact lookCheck_asks _

theorem changeErrors_asks {f : PortUnit → PortUnit} (hharvest : ∀ x, (f x).harvest = x.harvest)
    (htx : ∀ x, (f x).tx = x.tx) : s.Asks (changeErrors s p f) := by
  have hmoved : s.Asks (s.modPort p fun x => { f x with state := (f x).confined }) :=
    modPort_asks hharvest fun x => congrArg (fun tx => Laws.txQuery { x with tx := tx }) (htx x)
  exact hmoved.trans (changeErrors_asks_moved s p f)

theorem queueOutput_asks (s : State) (p : Port) (fs : List Frame) : s.Asks (queueOutput s p fs) :=
  modPort_asks (fun _ => rfl) fun _ => rfl

theorem offerForward_asks (s : State) (p : Port) (f : Frame) : s.Asks (s.modPort p fun x => x.offerForward f) := by
  have hkeeps : ∀ x : PortUnit, (x.offerForward f).harvest = x.harvest ∧
      Laws.txQuery (x.offerForward f) = Laws.txQuery x := by
    intro x
    unfold PortUnit.offerForward
    (repeat' split) <;> exact ⟨rfl, rfl⟩
  exact modPort_asks (fun x => (hkeeps x).1) fun x => (hkeeps x).2

end Sys2Proof.Machine

/-! PROOFS. Closes, queries, headers and records keep dialogues and queries in order: O9. -/

namespace Sys2Proof.Machine

variable {s t u : State} {c : ContextNo} {p : Port} {d e : Dialogue} {n : StationNo} {o : Closing} {off : Option Port}

/-! ### Dialogues in order -/

/-- What holds of a dialogue whatever its state. -/
structure Dialogue.Steady (d : Dialogue) : Prop where
  n_of_run : 1 ≤ d.run → d.n.isSome = true
  run_of_yield : d.yieldPending = true → 1 ≤ d.run
  resumeN_iff : d.resumeN.isSome = true ↔ d.origin = .resumed ∧ d.n = none
  retries_le : d.retries ≤ 7
  run_le : d.run ≤ 65535
  expected_le : d.expected ≤ 65535
  n_le : ∀ n, d.n = some n → n ≤ 65535

/-- A dialogue is in order when it is steady, its timer agrees with its state, and RECEIVING has its window. -/
theorem Dialogue.ok_iff : d.Ok ↔ d.Steady ∧ d.waitTimer.isSome = decide (d.phase ≠ .sending) ∧
    (d.phase = .receiving → ∃ n, d.n = some n ∧ d.expected < d.windowEnd ∧ d.windowEnd ≤ n) := by
  constructor
  · rintro ⟨htimer, hwindow, hrun, hyield, hresume, hretries, hrunLe, hexpected, hn⟩
    exact ⟨⟨hrun, hyield, hresume, hretries, hrunLe, hexpected, hn⟩, htimer, hwindow⟩
  · rintro ⟨⟨hrun, hyield, hresume, hretries, hrunLe, hexpected, hn⟩, htimer, hwindow⟩
    exact ⟨htimer, hwindow, hrun, hyield, hresume, hretries, hrunLe, hexpected, hn⟩

theorem Dialogue.Ok.steady (h : d.Ok) : d.Steady := (Dialogue.ok_iff.1 h).1

theorem Dialogue.Steady.yielding (h : d.Steady) (hrun : 1 ≤ d.run) : d.yielding.Steady :=
  ⟨h.n_of_run, fun _ => hrun, h.resumeN_iff, h.retries_le, h.run_le, h.expected_le, h.n_le⟩

theorem Dialogue.Ok.yielding (h : d.Ok) (hrun : 1 ≤ d.run) : d.yielding.Ok := by
  obtain ⟨hsteady, htimer, hwindow⟩ := Dialogue.ok_iff.1 h
  exact Dialogue.ok_iff.2 ⟨hsteady.yielding hrun, htimer, hwindow⟩

/-- A dialogue that enters SENDING, its timer stopped (R81, R90). -/
abbrev Dialogue.asking (d : Dialogue) : Dialogue := { d with phase := .sending, waitTimer := none }

theorem Dialogue.Steady.asking (h : d.Steady) : d.asking.Ok :=
  Dialogue.ok_iff.2 ⟨⟨h.n_of_run, h.run_of_yield, h.resumeN_iff, h.retries_le, h.run_le, h.expected_le, h.n_le⟩, rfl,
    nofun⟩

/-! ### States whose dialogues and queries are in order -/

/-- Dialogues and queries are in order, but that those of the port `off` may lack their query; and min run is not 0, so
that a dialogue that is asked to yield has accepted a record. -/
structure State.Talks (s : State) (off : Option Port) : Prop where
  wiring : s.wiring.OkOff off
  dialogues : DialoguesOk s
  minRun : 1 ≤ s.general.minRun

/-- The same but for the dialogue of one context. -/
structure State.TalksBut (s : State) (c : ContextNo) (off : Option Port) : Prop where
  wiring : s.wiring.OkOff off
  others : ∀ c' d, c' ≠ c → s.context c' = some d → d.Ok
  minRun : 1 ≤ s.general.minRun

theorem State.Talks.but (h : s.Talks off) (c : ContextNo) : s.TalksBut c off :=
  ⟨h.wiring, fun c' d _ => h.dialogues c' d, h.minRun⟩

theorem State.TalksBut.talks (h : s.TalksBut c off) (hd : ∀ d, s.context c = some d → d.Ok) : s.Talks off := by
  refine ⟨h.wiring, fun c' d hd' => ?_, h.minRun⟩
  by_cases hc : c' = c
  · subst hc
    exact hd d hd'
  · exact h.others c' d hc hd'

theorem State.Asks.ok_of_ok (h : s.Asks t) (hmin : 1 ≤ s.general.minRun) (hs : ∀ d, s.context c = some d → d.Ok) :
    ∀ d, t.context c = some d → d.Ok := by
  intro d hd
  rcases h.contexts c with ht | ⟨e, he, hrun, ht⟩
  · exact hs d (ht ▸ hd)
  · cases ht.symm.trans hd
    exact (hs e he).yielding (hmin.trans hrun)

theorem State.Asks.talksBut (h : s.Asks t) (hs : s.TalksBut c off) : t.TalksBut c off :=
  ⟨h.wiring ▸ hs.wiring, fun c' d hc => h.ok_of_ok hs.minRun (fun d => hs.others c' d hc) d, h.minRun ▸ hs.minRun⟩

theorem State.Asks.talks (h : s.Asks t) (hs : s.Talks off) : t.Talks off :=
  ⟨h.wiring ▸ hs.wiring, fun c => h.ok_of_ok hs.minRun (hs.dialogues c), h.minRun ▸ hs.minRun⟩

theorem State.Talks.of_same (h : s.Talks off) (htables : t.tables = s.tables := by rfl)
    (hports : t.ports = s.ports := by rfl) (hengine : t.engine = s.engine := by rfl) : t.Talks off :=
  (State.Asks.of_same htables hports hengine).talks h

/-- With every context FREE and every query gone, nothing is left to be in order (R122, R164, R173, R175). -/
theorem State.Talks.of_silent (hfree : ∀ c, s.context c = none) (hharvest : ∀ p, (s.port p).harvest = [])
    (htx : ∀ p, (s.port p).tx = none) (hmin : 1 ≤ s.general.minRun) : s.Talks off := by
  refine ⟨.of_silent (fun c => ?_) hharvest fun p => ?_, fun c d hd => ?_, hmin⟩
  · simp [State.wiring, hfree]
  · simp [State.wiring, Laws.txQuery, htx]
  · simp [hfree] at hd

/-! ### A context set anew -/

theorem setContext_wiring (s : State) (c : ContextNo) (x : Option Dialogue) : (s.setContext c x).wiring =
    { s.wiring with link := Function.update s.wiring.link c (x.map s.linkOf) } := by
  refine Wiring.eq_of_fields (link := fun c' => ?_)
  simp only [State.wiring, State.setContext_context, Function.update_apply]
  split <;> rfl

/-- A dialogue that stays with its station and its grant, in SENDING or out of it as before. -/
theorem setContext_wiring_of_same (hd : s.context c = some d) (hlink : s.linkOf e = s.linkOf d) :
    (s.setContext c (some e)).wiring = s.wiring := by
  rw [setContext_wiring, Option.map_some, hlink, ← State.wiring_link_of_context hd, Function.update_eq_self]

theorem setContext_talksBut (h : s.TalksBut c off) (hd : s.context c = some d) (hlink : s.linkOf e = s.linkOf d) :
    (s.setContext c (some e)).TalksBut c off := by
  refine ⟨(setContext_wiring_of_same hd hlink).symm ▸ h.wiring, fun c' d' hc hd' => ?_, h.minRun⟩
  rw [State.setContext_context, if_neg hc] at hd'
  exact h.others c' d' hc hd'

theorem State.linkOf_of_same (hphase : e.phase = .sending ↔ d.phase = .sending) (htag : e.grantTag = d.grantTag)
    (hstation : e.station = d.station) : s.linkOf e = s.linkOf d := by
  simp only [State.linkOf, State.dialoguePort, hphase, htag, hstation]

/-! ### Closes (R97) -/

theorem withdrawQuery_wiring (hw : s.wiring.OkOff off) (hd : s.context c = some d) : (withdrawQuery s c d).wiring =
    { s.wiring with harvest := fun p => (s.wiring.harvest p).filter fun q => q.context ≠ c } := by
  have hlive : ∀ p, ∀ q ∈ (s.port p).harvest, q.context = c → q.grantTag = d.grantTag ∧ p = s.dialoguePort d := by
    rintro p q hq rfl
    obtain ⟨d', hd', -, htag, hport⟩ := State.queryLive_iff.2 (hw.live p q hq)
    cases hd.symm.trans hd'
    exact ⟨htag.symm, hport.symm⟩
  refine Wiring.eq_of_fields (harvest := fun p => ?_) (tx := fun p => ?_)
  · change ((withdrawQuery s c d).port p).harvest = (s.port p).harvest.filter fun q => q.context ≠ c
    rw [withdrawQuery, State.modPort_port]
    split
    · refine List.filter_congr fun q hq => ?_
      by_cases hc : q.context = c
      · simp [hc, (hlive p q hq hc).1]
      · simp [hc]
    · next hp =>
      refine (List.filter_eq_self.2 fun q hq => ?_).symm
      simpa using fun hc => hp (hlive p q hq hc).2
  · change Laws.txQuery ((withdrawQuery s c d).port p) = Laws.txQuery (s.port p)
    rw [withdrawQuery, State.modPort_port]
    split <;> rfl

theorem State.closing_wiring (s : State) (c : ContextNo) (d : Dialogue) (o : Closing) :
    (s.closing c d o).wiring = (withdrawQuery s c d).wiring := by
  unfold State.closing
  split <;> rfl

theorem State.released_roster_ok (hok : s.roster.Ok) (hd : s.context c = some d) (o : Closing) :
    (s.released c d o).roster.Ok := by
  have hout := hok.release (State.roster_bound_of_context hd)
  have hidle : (s.roster.release c d.station).run d.station = .idle := Function.update_self ..
  rcases recordOutcome_roster (s.closing c d o) c d o with h | h <;> rw [State.released, h, State.closing_roster]
  · exact hout
  · exact hout.join (by simp [hidle]) (by simp [hidle]) false

theorem State.released_talks (h : s.TalksBut c off) (hd : s.context c = some d) (o : Closing) :
    (s.released c d o).Talks off := by
  obtain ⟨htables, -, -, hengine, -⟩ := s.closing_frame c d o
  have hmin : 1 ≤ (s.closing c d o).general.minRun := State.general_eq htables ▸ h.minRun
  have hasks := recordOutcome_asks (s.closing c d o) d o
  refine ⟨?_, fun c' d' hd' => ?_, hasks.minRun ▸ hmin⟩
  · have hwiring : (s.released c d o).wiring = s.wiring.release c := by
      rw [State.released, setContext_wiring, hasks.wiring, State.closing_wiring, withdrawQuery_wiring h.wiring hd]
      rfl
    exact hwiring ▸ h.wiring.release c
  · rw [State.released, State.setContext_context] at hd'
    split at hd'
    · cases hd'
    · next hc =>
      refine hasks.ok_of_ok hmin (fun d hd => ?_) d' hd'
      rw [State.context_eq hengine] at hd
      exact h.others c' d hc hd

/-- A close leaves all other dialogues in order, whatever its own was like. -/
theorem closeDialogue_talks_of_but (hok : s.roster.Ok) (h : s.TalksBut c off) (hd : s.context c = some d)
    (o : Closing) : (closeDialogue s c o).Talks off := by
  rw [closeDialogue_eq_released hd]
  exact ((releasePending_asks (State.released_roster_ok hok hd o)).trans (lookCheck_asks _)).talks
    (State.released_talks h hd o)

/-- The same after the dialogue of the context has been set anew. -/
theorem closeDialogue_setContext_talks (hok : s.roster.Ok) (h : s.TalksBut c off) (hd : s.context c = some d)
    (hlink : s.linkOf e = s.linkOf d) (hstation : e.station = d.station) (o : Closing) :
    (closeDialogue (s.setContext c (some e)) c o).Talks off := by
  refine closeDialogue_talks_of_but ?_ (setContext_talksBut h hd hlink)
    (by rw [State.setContext_context, if_pos rfl]) o
  rw [setContext_roster ((State.roster_bound_of_context hd).trans (congrArg some hstation.symm))]
  exact hok

theorem closeDialogue_talks (hok : s.roster.Ok) (h : s.Talks off) (c : ContextNo) (o : Closing) :
    (closeDialogue s c o).Talks off := by
  cases hd : s.context c with
  | none =>
    have hfree : closeDialogue s c o = s := by simp [closeDialogue, hd]
    exact hfree.symm ▸ h
  | some d => exact closeDialogue_talks_of_but hok (h.but c) hd o

/-- A fold of operations that each keep the roster, and dialogues and queries with it. -/
theorem foldl_talks {β : Type} {f : State → β → State} (hkeeps : ∀ (s : State) b, s.Keeps (f s b))
    (h : ∀ (s : State) b, s.roster.Ok → s.Talks off → (f s b).Talks off) (l : List β) :
    ∀ s : State, s.roster.Ok → s.roster.Waiting → s.Talks off → (l.foldl f s).Talks off := by
  induction l with
  | nil => exact fun s _ _ hs => hs
  | cons b l ih =>
    intro s hok hwaiting hs
    obtain ⟨hok', hwaiting', -⟩ := hkeeps s b hok hwaiting
    exact ih _ hok' hwaiting' (h s b hok hs)

theorem cutAll_talks (hok : s.roster.Ok) (hwaiting : s.roster.Waiting) (h : s.Talks off) : (cutAll s).Talks off :=
  foldl_talks (fun t c => closeDialogue_keeps t c .cut) (fun _ c hok h => closeDialogue_talks hok h c .cut) _ s hok
    hwaiting h

theorem losePort_talks (hok : s.roster.Ok) (hwaiting : s.roster.Waiting) (h : s.Talks off) (p : Port) :
    (losePort s p).Talks off := by
  refine foldl_talks (losePort_round_keeps p) (fun t c hok h => ?_) _ s hok hwaiting h
  split
  · exact closeDialogue_talks hok h c .portLost
  · exact h

/-! ### Queries (R80, R81) -/

theorem sendQuery_of_context (hd : s.context c = some d) : sendQuery s c =
    (s.setContext c (some d.asking)).modPort (s.dialoguePort d) fun x =>
      { x with harvest := x.harvest ++ [s.queryOf c d] } := by
  simp only [sendQuery, hd]

theorem sendQuery_context (hd : s.context c = some d) (c' : ContextNo) :
    (sendQuery s c).context c' = if c' = c then some d.asking else s.context c' := by
  rw [sendQuery_of_context hd, State.modPort_context, State.setContext_context]

/-- A query joins the harvest output of its station's port (R81). -/
theorem sendQuery_wiring (hd : s.context c = some d) :
    (sendQuery s c).wiring = s.wiring.ask (s.dialoguePort d) (s.queryOf c d) := by
  refine Wiring.eq_of_fields (link := fun c' => ?_) (harvest := fun p => ?_) (tx := fun p => ?_) ?_
  · change ((sendQuery s c).context c').map (sendQuery s c).linkOf = _
    have hlink : (sendQuery s c).linkOf = s.linkOf := by
      rw [sendQuery_of_context hd]
      rfl
    rw [sendQuery_context hd, hlink]
    simp only [Wiring.ask, State.queryOf, Function.update_apply]
    split
    · rfl
    · rfl
  · change ((sendQuery s c).port p).harvest = _
    rw [sendQuery_of_context hd, State.modPort_port]
    simp only [Wiring.ask, Function.update_apply]
    split
    · next hp => rw [hp]; rfl
    · rfl
  · change Laws.txQuery ((sendQuery s c).port p) = _
    rw [sendQuery_of_context hd, State.modPort_port]
    split <;> rfl
  · rw [sendQuery_of_context hd]
    rfl

/-- A dialogue out of SENDING sends its query, or another one, again. -/
theorem sendQuery_talks (h : s.TalksBut c off) (hd : s.context c = some d) (hphase : d.phase ≠ .sending)
    (hsteady : d.Steady) : (sendQuery s c).Talks off := by
  have hbut : (sendQuery s c).TalksBut c off := by
    refine ⟨?_, fun c' d' hc hd' => ?_, ?_⟩
    · rw [sendQuery_wiring hd]
      exact h.wiring.ask_again (q := s.queryOf c d) (State.wiring_link_of_context hd) (decide_eq_false hphase) rfl
    · rw [sendQuery_context hd, if_neg hc] at hd'
      exact h.others c' d' hc hd'
    · rw [sendQuery_of_context hd]
      exact h.minRun
  refine hbut.talks fun d' hd' => ?_
  rw [sendQuery_context hd, if_pos rfl, Option.some.injEq] at hd'
  exact hd' ▸ hsteady.asking

/-- The same after the dialogue of the context has been set anew. -/
theorem sendQuery_setContext_talks (h : s.TalksBut c off) (hd : s.context c = some d) (hlink : s.linkOf e = s.linkOf d)
    (hphase : e.phase ≠ .sending) (hsteady : e.Steady) : (sendQuery (s.setContext c (some e)) c).Talks off :=
  sendQuery_talks (setContext_talksBut h hd hlink) (by rw [State.setContext_context, if_pos rfl]) hphase hsteady

theorem retryPoint_talks (hok : s.roster.Ok) (h : s.Talks off)
    (hphase : ∀ d, s.context c = some d → d.phase ≠ .sending) : (retryPoint s c).Talks off := by
  unfold retryPoint
  split
  · exact h
  next d hd =>
  split
  · exact closeDialogue_talks hok h c _
  split
  · exact closeDialogue_talks hok h c _
  obtain ⟨hrun, hyield, hresume, hretries, hrunLe, hexpected, hn⟩ := (h.dialogues c d hd).steady
  have hlink : s.linkOf { d with retries := d.retries - 1 } = s.linkOf d := rfl
  exact sendQuery_setContext_talks (h.but c) hd hlink (hphase d hd)
    ⟨hrun, hyield, hresume, (Nat.sub_le _ _).trans hretries, hrunLe, hexpected, hn⟩

/-! ### Headers (R84, R85, R86) -/

/-- A window is not empty (R56). -/
theorem Tables.Ok.window_pos (h : t.tables.Ok) (n : StationNo) : 1 ≤ (t.stationRow n).window := by
  have hrow := h.1 n
  simp only [StationRow.ok, inRange, Bool.and_eq_true, decide_eq_true_eq] at hrow
  exact hrow.1.1.1.1.1.1.1.2.1

theorem Tables.Ok.retryLimit_le (h : t.tables.Ok) (n : StationNo) : (t.stationRow n).retryLimit ≤ 7 := by
  have hrow := h.1 n
  simp only [StationRow.ok, inRange, Bool.and_eq_true, decide_eq_true_eq] at hrow
  exact hrow.1.1.1.1.1.1.2.2

theorem acceptHeader_talks (hok : s.roster.Ok) (h : s.Talks off) (hd : s.context c = some d)
    (hphase : d.phase = .awaitHeader) {k : Nat} (hk : k ≤ 65535) (hwindow : 1 ≤ (s.stationRow d.station).window) :
    (acceptHeader s c d k).Talks off := by
  obtain ⟨hsteady, -, -⟩ := Dialogue.ok_iff.1 (h.dialogues c d hd)
  obtain ⟨hrun, hyield, hresume, hretries, hrunLe, hexpected, hn⟩ := hsteady
  unfold acceptHeader
  dsimp only
  split
  · refine closeDialogue_setContext_talks hok (h.but c) hd ?_ ?_ .complete <;> rfl
  · next hlt =>
    refine (setContext_talksBut (h.but c) hd ?_).talks fun d' hd' => ?_
    · exact State.linkOf_of_same (by simp [hphase]) rfl rfl
    rw [State.setContext_context, if_pos rfl, Option.some.injEq] at hd'
    rw [← hd', Dialogue.ok_iff]
    refine ⟨⟨fun _ => rfl, hyield, by simp, hretries, hrunLe, hexpected, fun n hn => ?_⟩, rfl,
      fun _ => ⟨k, rfl, ?_, ?_⟩⟩
    · cases hn
      exact hk
    · dsimp only
      omega
    · exact Nat.min_le_right _ _

theorem restartPass_talks (h : s.Talks off) (hd : s.context c = some d) (hphase : d.phase = .awaitHeader) {k : Nat}
    (hk : k ≤ 65535) : (restartPass s c d k).Talks off := by
  obtain ⟨hrun, hyield, hresume, hretries, hrunLe, hexpected, hn⟩ := (h.dialogues c d hd).steady
  have hcleared : s.Asks (clearSeen s d.station) := .of_same rfl rfl rfl
  refine sendQuery_setContext_talks ((hcleared.talks h).but c) (d := d) hd (State.linkOf_of_same Iff.rfl rfl rfl)
    (by simp [hphase]) ⟨fun _ => rfl, hyield, by simp, hretries, hrunLe, Nat.zero_le _, fun n hn => ?_⟩
  cases hn
  exact hk

theorem takeHeader_talks (hok : s.roster.Ok) (h : s.Talks off) (hd : s.context c = some d)
    (hphase : d.phase = .awaitHeader) {k : Nat} (hk : k ≤ 65535) (hwindow : 1 ≤ (s.stationRow d.station).window) :
    (takeHeader s c d k).Talks off := by
  have hcleared : s.Asks (clearSeen s d.station) := .of_same rfl rfl rfl
  unfold takeHeader
  (repeat' split)
  · exact closeDialogue_talks hok h c _
  · exact acceptHeader_talks hok h hd hphase hk hwindow
  · exact acceptHeader_talks (s := clearSeen s d.station) hok (hcleared.talks h) hd hphase hk hwindow
  · exact acceptHeader_talks hok h hd hphase hk hwindow
  · exact restartPass_talks h hd hphase hk

/-! ### Records (R87, R88, R89) -/

theorem windowBoundary_talks (hok : s.roster.Ok) (h : s.TalksBut c off) (hd : s.context c = some d)
    (hphase : d.phase = .receiving) (hsteady : d.Steady) (hretry : (s.stationRow d.station).retryLimit ≤ 7) :
    (windowBoundary s c d).Talks off := by
  have hlink : s.linkOf { d with retries := (s.stationRow d.station).retryLimit } = s.linkOf d := rfl
  unfold windowBoundary
  dsimp only
  split
  · exact closeDialogue_setContext_talks hok h hd hlink rfl .suspended
  · obtain ⟨hrun, hyield, hresume, -, hrunLe, hexpected, hn⟩ := hsteady
    exact sendQuery_setContext_talks h hd hlink (by simp [hphase])
      ⟨hrun, hyield, hresume, hretry, hrunLe, hexpected, hn⟩

/-- What follows an advance, which may have reached the end of the window (R87, R89). -/
theorem afterAdvance_talks (hok : s.roster.Ok) (h : s.TalksBut c off) (hd : s.context c = some d)
    (hphase : d.phase = .receiving) (hsteady : d.Steady) (htimer : d.waitTimer.isSome = true)
    (hwindow : ∃ n, d.n = some n ∧ d.expected ≤ d.windowEnd ∧ d.windowEnd ≤ n)
    (hretry : (s.stationRow d.station).retryLimit ≤ 7) : (afterAdvance s c).Talks off := by
  simp only [afterAdvance, hd]
  split
  · exact closeDialogue_talks_of_but hok h hd .complete
  split
  · exact windowBoundary_talks hok h hd hphase hsteady hretry
  · next hend =>
    refine h.talks fun d' hd' => ?_
    cases hd.symm.trans hd'
    obtain ⟨n, hn, hle, hlen⟩ := hwindow
    exact Dialogue.ok_iff.2 ⟨hsteady, by simp [htimer, hphase], fun _ => ⟨n, hn, lt_of_le_of_ne hle hend, hlen⟩⟩

/-- The dialogue after an accepted record: expected index and run have risen, and the wait timer starts anew (R87). -/
def Dialogue.advanced (d : Dialogue) (wait : Nat) : Dialogue :=
  { d with expected := d.expected + 1, run := sat16 d.run 1, waitTimer := some wait }

theorem Dialogue.Ok.advanced (h : d.Ok) (hphase : d.phase = .receiving) (wait : Nat) : (d.advanced wait).Steady ∧
    1 ≤ (d.advanced wait).run ∧
    ∃ n, d.n = some n ∧ (d.advanced wait).expected ≤ d.windowEnd ∧ d.windowEnd ≤ n := by
  obtain ⟨⟨hrun, hyield, hresume, hretries, hrunLe, hexpected, hn⟩, -, hwindow⟩ := Dialogue.ok_iff.1 h
  obtain ⟨n, hn', hlt, hle⟩ := hwindow hphase
  have hrise : 1 ≤ sat16 d.run 1 := by simp only [sat16, satAdd]; omega
  have hnle := hn n hn'
  refine ⟨⟨fun _ => by simp [Dialogue.advanced, hn'], fun _ => hrise, hresume, hretries, sat16_le _ _, ?_, hn⟩,
    hrise, n, hn', hlt, hle⟩
  simp only [Dialogue.advanced]
  omega

/-- The state in which the checks of R94 and R95 are made: the record merged, the dialogue advanced (R87). -/
def State.recorded (s : State) (c : ContextNo) (d : Dialogue) (r : FaultReport) : State :=
  (takeMerge s (r.merge d.station .readback)).modDialogue c fun x =>
    x.advanced (s.stationRow d.station).waitTime

theorem acceptRecord_eq (s : State) (c : ContextNo) (d : Dialogue) (r : FaultReport) :
    acceptRecord s c d r = afterAdvance (preemptionCheck (maxRunCheck (s.recorded c d r) c)) c := by
  obtain ⟨-, htables, -⟩ := takeMerge_frame s (r.merge d.station .readback)
  have hrow := State.stationRow_eq htables d.station
  rw [State.recorded, ← hrow]
  rfl

theorem State.recorded_context (hd : s.context c = some d) (r : FaultReport) (c' : ContextNo) :
    (s.recorded c d r).context c' =
      if c' = c then some (d.advanced (s.stationRow d.station).waitTime) else s.context c' := by
  rw [State.recorded, State.modDialogue_context, State.context_eq (takeMerge_engine_of_readback rfl)]
  split
  · next hc => rw [hc, hd]; rfl
  · rfl

theorem State.recorded_talksBut (h : s.Talks off) (hd : s.context c = some d) (r : FaultReport) :
    (s.recorded c d r).TalksBut c off := by
  have hmerged := (takeMerge_asks s (r.merge d.station .readback)).talks h
  have hd' : (takeMerge s (r.merge d.station .readback)).context c = some d :=
    (State.context_eq (takeMerge_engine_of_readback rfl) c).trans hd
  unfold State.recorded State.modDialogue
  rw [hd']
  exact setContext_talksBut (hmerged.but c) hd' (State.linkOf_of_same Iff.rfl rfl rfl)

theorem acceptRecord_talks (hok : s.roster.Ok) (hwaiting : s.roster.Waiting) (h : s.Talks off)
    (hd : s.context c = some d) (hphase : d.phase = .receiving) (r : FaultReport)
    (hretry : (s.stationRow d.station).retryLimit ≤ 7) : (acceptRecord s c d r).Talks off := by
  rw [acceptRecord_eq]
  have hasks := (maxRunCheck_asks (s.recorded c d r) c).trans (preemptionCheck_asks _)
  have hyields := (maxRunCheck_yieldOnly (s.recorded c d r) c).trans (preemptionCheck_yieldOnly _)
  set checked := preemptionCheck (maxRunCheck (s.recorded c d r) c)
  have hbut := hasks.talksBut (State.recorded_talksBut h hd r)
  have hroster : checked.roster.Ok := by
    obtain ⟨hok', -⟩ := takeMerge_keeps s (r.merge d.station .readback) hok hwaiting
    rw [hyields.roster, State.recorded, modDialogue_roster (f := fun x => x.advanced _) fun _ => rfl]
    exact hok'
  have hrow : ∀ n, checked.stationRow n = s.stationRow n := by
    obtain ⟨-, htables, -⟩ := hyields.fields
    obtain ⟨-, htables', -⟩ := takeMerge_frame s (r.merge d.station .readback)
    exact fun n => (State.stationRow_eq htables n).trans (State.stationRow_eq htables' n)
  obtain ⟨hsteady, hrun, n, hn, hle, hlen⟩ := (h.dialogues c d hd).advanced hphase (s.stationRow d.station).waitTime
  have hcontext := hyields.2 c
  rw [State.recorded_context hd, if_pos rfl] at hcontext
  rcases hcontext with hc | hc
  · exact afterAdvance_talks hroster hbut hc hphase hsteady rfl ⟨n, hn, hle, hlen⟩ (hrow _ ▸ hretry)
  · exact afterAdvance_talks hroster hbut hc hphase (hsteady.yielding hrun) rfl ⟨n, hn, hle, hlen⟩ (hrow _ ▸ hretry)

theorem takeRecord_talks (hok : s.roster.Ok) (hwaiting : s.roster.Waiting) (h : s.Talks off)
    (hd : s.context c = some d) (hphase : d.phase = .receiving) (k : Nat) (r : FaultReport)
    (hretry : (s.stationRow d.station).retryLimit ≤ 7) : (takeRecord s c d k r).Talks off := by
  unfold takeRecord
  (repeat' split)
  · exact h
  · exact acceptRecord_talks hok hwaiting h hd hphase r hretry
  · refine retryPoint_talks hok h fun d' hd' => ?_
    cases hd.symm.trans hd'
    simp [hphase]

end Sys2Proof.Machine

/-! PROOFS. Grants, ports that leave the bus, transmissions and arrivals keep dialogues and queries in order: O9. -/

namespace Sys2Proof.Machine

variable {s t u : State} {c : ContextNo} {p : Port} {d : Dialogue} {n : StationNo} {off : Option Port}

/-! ### Grants (R78) -/

/-- The dialogue that a grant starts (R78, R96). -/
def State.granted (s : State) (g : Grant) : Dialogue where
  phase := .sending
  station := g.station
  origin := if (s.station g.station).resume.isSome then .resumed else .fromZero
  resumeN := (s.station g.station).resume.map (·.n)
  n := none
  expected := ((s.station g.station).resume.map (·.next)).getD 0
  windowEnd := 0
  retries := (s.stationRow g.station).retryLimit
  run := 0
  waitTimer := none
  yieldPending := false
  urgentStart := g.urgent
  grantTag := s.engine.grants

/-- The state in which the granted dialogue is bound: the station out of its queue and ENGAGED, the grant counted
(R78). -/
def State.engaging (s : State) (g : Grant) : State :=
  let t := (s.modDue g.port DueQueue.removeHead).modStation g.station fun x =>
    { x with run := .engaged, urgent := false }
  { t with engine := { t.engine with lastGranted := g.port, grants := s.engine.grants + 1 } }

theorem bindContext_eq (s : State) (g : Grant) : bindContext s g =
    sendQuery ((s.engaging g).setContext g.context (some (s.granted g))) g.context := rfl

theorem State.granted_ok {g : Grant} (hstation : (s.station g.station).Ok)
    (hretry : (s.stationRow g.station).retryLimit ≤ 7) : (s.granted g).asking.Ok := by
  obtain ⟨-, hresume, -⟩ := hstation
  refine Dialogue.Steady.asking ⟨fun h => absurd h (by decide : ¬ 1 ≤ 0), nofun, ?_, hretry, Nat.zero_le _, ?_, nofun⟩
  · simp only [State.granted]
    cases (s.station g.station).resume <;> simp
  · simp only [State.granted]
    cases hr : (s.station g.station).resume with
    | none => simp
    | some r => simpa using (hresume r hr).1

theorem bindContext_wiring {g : Grant} : (bindContext s g).wiring =
    { s.wiring.ask (s.stationRow g.station).homePort
        { frame := ((s.engaging g).queryOf g.context (s.granted g)).frame, context := g.context,
          grantTag := s.engine.grants } with
      grants := s.engine.grants + 1 } := by
  rw [bindContext_eq, sendQuery_wiring (by rw [State.setContext_context, if_pos rfl]), setContext_wiring]
  refine Wiring.eq_of_fields (link := fun c => ?_)
  simp only [Wiring.ask, State.queryOf, Function.update_apply]
  split <;> rfl

theorem bindContext_talks {g : Grant} (h : s.Talks none) (hfree : s.context g.context = none)
    (hstation : (s.station g.station).Ok) (hretry : (s.stationRow g.station).retryLimit ≤ 7) :
    (bindContext s g).Talks none := by
  have hcontext : ∀ c, (bindContext s g).context c =
      if c = g.context then some (s.granted g).asking else s.context c := fun c => by
    rw [bindContext_eq, sendQuery_context (by rw [State.setContext_context, if_pos rfl]), State.setContext_context]
    split <;> rfl
  refine ⟨?_, fun c d hd => ?_, ?_⟩
  · rw [bindContext_wiring]
    exact h.wiring.ask_first (by simp [State.wiring, hfree]) rfl
  · rw [hcontext] at hd
    split at hd
    · cases hd
      exact State.granted_ok hstation hretry
    · exact h.dialogues c d hd
  · have htables : (bindContext s g).tables = s.tables := by simp
    rw [State.general_eq htables]
    exact h.minRun

/-! ### Ports that leave the bus (R122, R125) -/

/-- A port whose harvest output and transmitter are emptied: its dialogues may lack their query. -/
theorem modPort_talks_of_emptied {f : PortUnit → PortUnit} (h : s.Talks none)
    (hf : ∀ x, (f x).harvest = [] ∧ (f x).tx = none) (p : Port) : (s.modPort p f).Talks (some p) := by
  refine ⟨?_, h.dialogues, h.minRun⟩
  have hwiring : (s.modPort p f).wiring = s.wiring.silence p := by
    refine Wiring.eq_of_fields (harvest := fun q => ?_) (tx := fun q => ?_)
    · simp only [Wiring.silence, Function.update_apply, State.wiring, State.modPort_port]
      split
      · exact (hf _).1
      · rfl
    · simp only [Wiring.silence, Function.update_apply, State.wiring, State.modPort_port]
      split
      · simp [Laws.txQuery, (hf _).2]
      · rfl
  exact hwiring ▸ h.wiring.silence p

/-- Once the dialogues of the port have ended, all others have their queries (R99). -/
theorem losePort_talks_none (hok : s.roster.Ok) (hwaiting : s.roster.Waiting) (h : s.Talks (some p)) :
    (losePort s p).Talks none := by
  obtain ⟨hwiring, hdialogues, hmin⟩ := losePort_talks hok hwaiting h p
  refine ⟨hwiring.none_of_lost fun c l hl => ?_, hdialogues, hmin⟩
  obtain ⟨d, hd, rfl⟩ := State.wiring_link.1 hl
  exact losePort_home_ne hok hwaiting (State.roster_bound_of_context hd)

theorem dropWaiting_asks (s : State) (p : Port) : s.Asks (dropWaiting s p) := by
  apply State.Asks.of_same <;> simp

theorem pauseStream_asks (s : State) (p : Port) : s.Asks (pauseStream s p) := .of_same rfl rfl rfl

theorem settledLoss_talks (hok : s.roster.Ok) (hwaiting : s.roster.Waiting) (h : s.Talks (some p)) (before : State) :
    (settleLook (pauseStream (losePort s p) p) before).Talks none :=
  ((pauseStream_asks _ p).trans (settleLook_asks _ before)).talks (losePort_talks_none hok hwaiting h)

theorem enterBusOff_talks (hs : s.roster.Sound) (h : s.Talks none) (p : Port) : (enterBusOff s p).Talks none := by
  have hserves : s.roster.ServesAs (dropWaiting (s.modPort p PortUnit.enterBusOff) p).roster := by
    rw [dropWaiting_roster]
    exact modPort_servesAs s p _
  refine settledLoss_talks (hserves.ok hs.ok) (hserves.waiting hs.waiting) ?_ s
  exact (dropWaiting_asks _ p).talks (modPort_talks_of_emptied h (fun _ => ⟨rfl, rfl⟩) p)

theorem applyPortRow_talks (hs : s.roster.Sound) (h : s.Talks none) (p : Port) (row : PortRow) :
    (applyPortRow s p row).Talks none := by
  have hrow : s.Asks (s.modTables fun t => { t with ports := modifyAt t.ports p fun _ => row }) :=
    ⟨State.wiring_eq rfl rfl rfl, rfl, fun c => .inl rfl⟩
  have hdown := modPort_talks_of_emptied (f := fun x => { x.flushed.arbiterReset with
    state := if row.enable then .joining else .off, txErrors := 0, rxErrors := 0 }) (hrow.talks h)
    (fun _ => ⟨rfl, rfl⟩) p
  refine settledLoss_talks ?_ ?_ hdown s
  · exact Roster.ServesAs.ok (r := s.roster) rfl hs.ok
  · exact Roster.ServesAs.waiting (r := s.roster) rfl hs.waiting

/-! ### Transmissions (R81, R121, R139) -/

theorem setContext_self (s : State) (c : ContextNo) : s.setContext c (s.context c) = s := by
  have hcontexts : modifyAt s.engine.contexts c (fun _ => s.context c) = s.engine.contexts :=
    modifyAt_id _ _ _ rfl
  exact State.eq_of_components rfl rfl rfl rfl rfl (by rw [State.setContext_engine, hcontexts]) rfl
    rfl rfl rfl rfl rfl rfl

/-- The dialogue once the query with that tag has been sent: its own takes it to AWAIT_HEADER (R81). -/
def Dialogue.sent (d : Dialogue) (tag wait : Nat) : Dialogue :=
  if d.phase = .sending ∧ d.grantTag = tag then { d with phase := .awaitHeader, waitTimer := some wait } else d

theorem Dialogue.Ok.sent (h : d.Ok) (tag wait : Nat) : (d.sent tag wait).Ok := by
  unfold Dialogue.sent
  split
  · obtain ⟨hrun, hyield, hresume, hretries, hrunLe, hexpected, hn⟩ := h.steady
    exact Dialogue.ok_iff.2 ⟨⟨hrun, hyield, hresume, hretries, hrunLe, hexpected, hn⟩, rfl, nofun⟩
  · exact h

theorem querySent_eq (s : State) (q : Query) : querySent s q =
    s.modDialogue q.context fun d => d.sent q.grantTag (s.stationRow d.station).waitTime := by
  unfold querySent State.modDialogue Dialogue.sent
  cases hd : s.context q.context with
  | none => exact (hd ▸ setContext_self s q.context).symm
  | some d =>
    simp only [Option.map_some]
    split
    · rfl
    · exact (hd ▸ setContext_self s q.context).symm

/-- A query's sent event (R81). -/
theorem querySent_wiring {q : Query} (htx : s.wiring.tx p = none) : (querySent s q).wiring = s.wiring.sent p q := by
  have htx' : Function.update s.wiring.tx p none = s.wiring.tx := by rw [← htx, Function.update_eq_self]
  rw [querySent_eq]
  refine Wiring.eq_of_fields (link := fun c => ?_) (tx := fun x => ?_)
  · simp only [State.wiring, Wiring.sent, State.modDialogue_context]
    split
    · cases s.context c with
      | none => rfl
      | some d =>
        simp only [Option.map_some, Option.some.injEq, Dialogue.sent, State.linkOf, decide_eq_true_eq]
        split <;> rfl
    · rfl
  · simp only [Wiring.sent, htx']
    rfl

/-- A frame that has been sent leaves the transmitter, whatever becomes of the port's error counts (R120, R121). -/
theorem changeErrors_wiring_of_sent {f : PortUnit → PortUnit} (hharvest : ∀ x, (f x).harvest = x.harvest)
    (htx : ∀ x, (f x).tx = none) : (changeErrors s p f).wiring =
      { s.wiring with tx := Function.update s.wiring.tx p none } := by
  rw [(changeErrors_asks_moved s p f).wiring]
  refine Wiring.eq_of_fields (harvest := fun q => ?_) (tx := fun q => ?_)
  · simp only [State.wiring, State.modPort_port]
    split
    · exact hharvest _
    · rfl
  · simp only [State.wiring, State.modPort_port, Function.update_apply]
    split
    · simp [Laws.txQuery, htx]
    · rfl

theorem tellSource_talks {x : TxFrame} (h : s.Talks none) (hx : (s.port p).tx = some x)
    (hwiring : t.wiring = { s.wiring with tx := Function.update s.wiring.tx p none }) (hdialogues : DialoguesOk t)
    (hmin : 1 ≤ t.general.minRun) : (tellSource t x).Talks none := by
  have hidle : ∀ y, (s.port p).tx = some y → Laws.txQuery (s.port p) = none → t.Talks none := fun y hy hnone => by
    refine ⟨?_, hdialogues, hmin⟩
    have hsame : Function.update s.wiring.tx p none = s.wiring.tx := by
      rw [show none = s.wiring.tx p from hnone.symm, Function.update_eq_self]
    rw [hwiring, hsame]
    exact h.wiring
  cases x with
  | forwarded f => exact hidle _ hx (by simp [Laws.txQuery, hx])
  | management f => exact hidle _ hx (by simp [Laws.txQuery, hx])
  | query q =>
    have htx : t.wiring.tx p = none := by rw [hwiring]; exact Function.update_self ..
    refine ⟨?_, fun c d hd => ?_, ?_⟩
    · have hsent : (tellSource t (.query q)).wiring = s.wiring.sent p q := by
        rw [tellSource, querySent_wiring htx, hwiring]
        simp only [Wiring.sent, Function.update_idem]
      exact hsent ▸ h.wiring.sent (State.wiring_tx.2 hx)
    · rw [tellSource, querySent_eq, State.modDialogue_context] at hd
      split at hd
      · obtain ⟨e, he, rfl⟩ := Option.map_eq_some_iff.1 hd
        exact (hdialogues _ e he).sent _ _
      · exact hdialogues c d hd
    · rw [tellSource, querySent_eq]
      exact hmin

theorem frameSent_talks (h : s.Talks none) (p : Port) : (frameSent s p).Talks none := by
  unfold frameSent
  split
  · exact h
  · next x hx =>
    split
    · set f : PortUnit → PortUnit := fun u => { u with tx := none, txErrors := u.txErrors - 1 }
      have hasks := changeErrors_asks_moved s p f
      refine tellSource_talks h hx (changeErrors_wiring_of_sent (fun _ => rfl) fun _ => rfl)
        (fun c => hasks.ok_of_ok h.minRun (h.dialogues c)) ?_
      exact hasks.minRun ▸ h.minRun
    · exact h

theorem frameFailed_talks (hs : s.roster.Sound) (h : s.Talks none) (p : Port) : (frameFailed s p).Talks none := by
  have hcounted : ∀ f : PortUnit → Nat, s.Asks (s.modPort p fun u => { u with txErrors := f u }) := fun f =>
    modPort_asks (fun _ => rfl) fun _ => rfl
  unfold frameFailed
  (repeat' split)
  · exact h
  · refine enterBusOff_talks (hs.of_eq ?_) ((hcounted _).talks h) p
    exact modPort_roster fun _ => rfl
  · refine State.Asks.talks ?_ h
    apply changeErrors_asks <;> exact fun _ => rfl
  · exact h

/-- A choice of the transmit arbiter places the head of the harvest output in an empty transmitter, or leaves the
harvest output and the query in the transmitter (R138, R139). -/
theorem PortUnit.choose_cases (x : PortUnit) (row : PortRow) :
    ((x.choose row).harvest = x.harvest ∧ Laws.txQuery (x.choose row) = Laws.txQuery x) ∨
    ∃ q rest, x.harvest = q :: rest ∧ x.tx = none ∧ (x.choose row).harvest = rest ∧
      (x.choose row).tx = some (.query q) := by
  unfold PortUnit.choose
  split
  · next hmay =>
    have htx : x.tx = none := by
      simp only [PortUnit.mayChoose, Bool.and_eq_true, Option.isNone_iff_eq_none] at hmay
      exact hmay.2
    split
    · next src _ =>
      cases src with
      | forward => left; unfold PortUnit.place; dsimp only; split <;> simp [Laws.txQuery, htx]
      | management => left; unfold PortUnit.place; dsimp only; split <;> simp [Laws.txQuery, htx]
      | harvest =>
        cases hq : x.harvest with
        | nil => simp [PortUnit.place, hq]
        | cons q rest => exact .inr ⟨q, rest, rfl, htx, by simp [PortUnit.place, hq], by simp [PortUnit.place, hq]⟩
    · exact .inl ⟨rfl, rfl⟩
  · exact .inl ⟨rfl, rfl⟩

theorem choose_talks (h : s.Talks off) (p : Port) (row : PortRow) : (s.modPort p fun u => u.choose row).Talks off := by
  rcases (s.port p).choose_cases row with ⟨hharvest, htx⟩ | ⟨q, rest, hq, htx, hrest, hplaced⟩
  · exact (modPort_asks_of_port hharvest htx).talks h
  · have hwiring : (s.modPort p fun u => u.choose row).wiring = s.wiring.place p q rest := by
      refine Wiring.eq_of_fields (harvest := fun x => ?_) (tx := fun x => ?_)
      · simp only [State.wiring, Wiring.place, State.modPort_port, Function.update_apply]
        split
        · next hx => rw [hx, hrest]
        · rfl
      · simp only [State.wiring, Wiring.place, State.modPort_port, Function.update_apply]
        split
        · next hx => simp [Laws.txQuery, hx, hplaced]
        · rfl
    exact ⟨hwiring ▸ h.wiring.place hq (by simp [State.wiring, Laws.txQuery, htx]), h.dialogues, h.minRun⟩

end Sys2Proof.Machine

/-! PROOFS. Every command and every millisecond keeps dialogues and queries in order: O9. -/

namespace Sys2Proof.Machine

variable {s t u : State} {c : ContextNo} {p : Port} {d : Dialogue} {n : StationNo} {off : Option Port}

/-! ### Time -/

theorem tickTimer_isSome (x : Option Nat) : (tickTimer x).isSome = x.isSome := by
  cases x <;> rfl

theorem Dialogue.Ok.ticked (h : d.Ok) : { d with waitTimer := tickTimer d.waitTimer }.Ok := by
  obtain ⟨⟨hrun, hyield, hresume, hretries, hrunLe, hexpected, hn⟩, htimer, hwindow⟩ := Dialogue.ok_iff.1 h
  exact Dialogue.ok_iff.2 ⟨⟨hrun, hyield, hresume, hretries, hrunLe, hexpected, hn⟩,
    (tickTimer_isSome d.waitTimer).trans htimer, hwindow⟩

/-- A millisecond lets every wait timer run, and leaves the wiring. -/
theorem runTimers_talks (h : s.Talks off) : (runTimers s).Talks off := by
  have hcontext : ∀ c, (runTimers s).context c =
      (s.context c).map fun d => { d with waitTimer := tickTimer d.waitTimer } := fun c => by
    simp [runTimers, State.context]
  have hport : ∀ p, ((runTimers s).port p).harvest = (s.port p).harvest ∧
      Laws.txQuery ((runTimers s).port p) = Laws.txQuery (s.port p) := fun p => by
    simp only [runTimers, State.port, mapAll_get]
    split <;> exact ⟨rfl, rfl⟩
  refine ⟨?_, fun c d hd => ?_, h.minRun⟩
  · have hwiring : (runTimers s).wiring = s.wiring := by
      refine Wiring.eq_of_fields (link := fun c => ?_) (harvest := fun p => (hport p).1) (tx := fun p => (hport p).2)
      simp only [State.wiring, hcontext]
      cases s.context c <;> rfl
    exact hwiring ▸ h.wiring
  · rw [hcontext] at hd
    obtain ⟨e, he, rfl⟩ := Option.map_eq_some_iff.1 hd
    exact (h.dialogues c e he).ticked

theorem passMillisecond_talks (h : s.Talks off) : (passMillisecond s).Talks off := by
  have hclock : s.Asks (s.modClock Clock.millisecond) := .of_same rfl rfl rfl
  unfold passMillisecond
  dsimp only
  split
  · exact (hclock.before (u := (s.modClock Clock.millisecond).modNotice _)).talks h
  · exact runTimers_talks (hclock.talks h)

/-! ### Key events -/

theorem startGrace_talks (hok : s.roster.Ok) (hwaiting : s.roster.Waiting) (h : s.Talks off) :
    (startGrace s).Talks off := by
  have hgrace : ∀ x, s.Asks (s.modSurvey fun v => { v with grace := x }) := fun x => .of_same rfl rfl rfl
  unfold startGrace
  split
  · exact cutAll_talks hok hwaiting ((hgrace none).talks h)
  · exact (hgrace _).talks h

theorem keyOffEvent_talks (hok : s.roster.Ok) (hwaiting : s.roster.Waiting) (h : s.Talks off) :
    (keyOffEvent s).Talks off := by
  have hkeeps : s.Keeps (s.modClock fun k => { k with key := .off }).keyedOff := (flushDue_keeps s).before rfl
  obtain ⟨hok', hwaiting', -⟩ := hkeeps hok hwaiting
  have hkeyed : s.Asks (s.modClock fun k => { k with key := .off }).keyedOff := .of_same rfl rfl rfl
  have hgrace := startGrace_talks hok' hwaiting' (hkeyed.talks h)
  rw [← surveyKeyOff_eq] at hgrace
  exact hgrace.of_same

theorem keyValue_talks (hok : s.roster.Ok) (hwaiting : s.roster.Waiting) (h : s.Talks off) (raw : Nat)
    (mask on : BitVec 32) : (keyValue s raw mask on).Talks off := by
  have hrestart : ∀ t : State, t.Talks off → (restartKeyLoss t).Talks off := fun t ht => ht.of_same
  unfold keyValue applyReading
  (repeat' split)
  · exact h
  · exact hrestart _ ((keyOnEvent_asks s).talks h)
  · exact hrestart _ (keyOffEvent_talks hok hwaiting h)
  · exact hrestart s h
  · exact hrestart s h

/-! ### Arrivals -/

/-- The N of a header fits its field of at most two bytes (R103, R108). -/
theorem readReply_header_le {x : Descriptor} (hx : x.ok = true) {default : Nat} {data : List Byte} {k : Nat}
    (h : readReply x default data = some (.header k)) : k ≤ 65535 := by
  have hwidth : x.nField.width ≤ 2 := by
    simp only [Descriptor.ok, Field.ok, inRange, Bool.and_eq_true, decide_eq_true_eq] at hx
    omega
  have hlt : readField x x.nField data < 256 ^ 2 :=
    (readField_lt x x.nField data).trans_le (Nat.pow_le_pow_right (by decide) hwidth)
  unfold readReply at h
  (repeat' split at h)
  · cases h
  · cases h
    exact Nat.le_of_lt_succ hlt
  · cases h
  · obtain ⟨_, -, hr⟩ := Option.map_eq_some_iff.1 h
    cases hr
  · cases h

theorem countStray_asks (s : State) (p : Port) : s.Asks (countStray s p) := modPort_asks (fun _ => rfl) fun _ => rfl

theorem countMalformed_asks (s : State) (p : Port) : s.Asks (countMalformed s p) :=
  modPort_asks (fun _ => rfl) fun _ => rfl

theorem giveReply_talks (hok : s.roster.Ok) (hwaiting : s.roster.Waiting) (h : s.Talks off) (htables : s.tables.Ok)
    (hd : s.context c = some d) (p : Port) {r : Reply} (hr : ∀ k, r = .header k → k ≤ 65535) :
    (giveReply s p c d r).Talks off := by
  unfold giveReply
  split
  · next k hphase => exact takeHeader_talks hok h hd hphase (hr k rfl) (htables.window_pos _)
  · next hphase => exact takeRecord_talks hok hwaiting h hd hphase _ _ (htables.retryLimit_le _)
  all_goals exact (countStray_asks s p).talks h

theorem takeReply_talks (hok : s.roster.Ok) (hwaiting : s.roster.Waiting) (h : s.Talks off) (htables : s.tables.Ok)
    (p : Port) (row : IdentRow) (data : List Byte) : (takeReply s p row data).Talks off := by
  have hstray := (countStray_asks s p).talks h
  obtain ⟨-, hformats, -⟩ := id htables
  unfold takeReply
  (repeat' split)
  · exact (countMalformed_asks s p).talks h
  · exact hstray
  · exact hstray
  · next r hr _ c _ _ d hd =>
    exact giveReply_talks hok hwaiting h htables hd p fun k hk => readReply_header_le (hformats _) (hk ▸ hr)
  · exact hstray

theorem handOn_talks (hok : s.roster.Ok) (hwaiting : s.roster.Waiting) (h : s.Talks off) (htables : s.tables.Ok)
    (p : Port) (f : Frame) (row : IdentRow) : (handOn s p f row).Talks off := by
  have hmalformed := (countMalformed_asks s p).talks h
  unfold handOn
  split
  · exact h
  cases row.cls with
  | pass => exact h
  | announce =>
    simp only [takeAnnouncement]
    split
    · exact (takeMerge_asks s _).talks h
    · exact hmalformed
  | reply => exact takeReply_talks hok hwaiting h htables p row f.data
  | key =>
    simp only [takeKey]
    split
    · exact keyValue_talks hok hwaiting h _ _ _
    · exact hmalformed
  | time =>
    simp only [takeTime, vehicleTime]
    (repeat' split)
    · exact h
    · exact h.of_same
    · exact hmalformed
  | manage =>
    simp only [takeManage, takeRequest]
    (repeat' split)
    · exact h.of_same
    · exact (queueOutput_asks s p _).talks h
    · exact h.of_same
    · exact (queueOutput_asks s p _).talks h
    · exact h.of_same
    · exact h

theorem forwardFrame_asks (s : State) (p : Port) (f : Frame) (route : PortSet) :
    s.Asks (forwardFrame s p f route) := by
  refine foldl_asks _ (fun t q => ?_) _ s
  split
  · exact offerForward_asks t q f
  · exact .refl t

theorem arrivalLowersRec_asks (s : State) (p : Port) : s.Asks (arrivalLowersRec s p) := by
  unfold arrivalLowersRec
  split
  · apply changeErrors_asks <;> exact fun _ => rfl
  · exact .refl s

theorem ringStep_asks (s : State) (before : Nat) (p : Port) (x : RingFrame) : s.Asks (ringStep s before p x) := by
  apply State.Asks.of_same <;> simp

theorem takeArrival_talks (hok : s.roster.Ok) (hwaiting : s.roster.Waiting) (h : s.Talks off) (htables : s.tables.Ok)
    (p : Port) (f : Frame) : (takeArrival s p f).Talks off := by
  have hseen : s.Asks (arrivalLowersRec (arrivalSeen s) p) :=
    (arrivalLowersRec_asks _ p).after (by simp) (by simp) (by simp)
  have hroster : (arrivalLowersRec (arrivalSeen s) p).roster = s.roster :=
    (arrivalLowersRec_roster _ p).trans (arrivalSeen_roster s)
  have htables' : (arrivalLowersRec (arrivalSeen s) p).tables = s.tables := by simp
  unfold takeArrival
  dsimp only
  set seen := arrivalLowersRec (arrivalSeen s) p
  split
  · exact (hseen.trans (forwardFrame_asks seen p f _)).talks h
  next row _ =>
  have hhanded : ∀ t : State, seen.Asks t → t.roster = seen.roster → t.tables = seen.tables →
      (handOn t p f row).Talks off := by
    intro t ht hr htab
    refine handOn_talks ?_ ?_ ((hseen.trans ht).talks h) ?_ p f row
    · rw [hr, hroster]; exact hok
    · rw [hr, hroster]; exact hwaiting
    · rw [htab, htables']; exact htables
  have hgiven : (handOn (if row.cls = .manage then seen else forwardFrame seen p f row.route) p f row).Talks off := by
    split
    · exact hhanded seen (.refl _) rfl rfl
    · exact hhanded _ (forwardFrame_asks seen p f _) (forwardFrame_roster seen p f _) (by simp)
  split
  · exact (ringStep_asks _ _ p _).talks hgiven
  · exact hgiven

end Sys2Proof.Machine

/-! PROOFS. Power, requests and streams, and every command, keep dialogues and queries in order: O9. -/

namespace Sys2Proof.Machine

variable {s t u : State} {c : ContextNo} {p : Port} {d : Dialogue} {n : StationNo} {off : Option Port}

/-- What every command needs to keep dialogues and queries in order. -/
structure State.Conversing (s : State) : Prop where
  sound : s.roster.Sound
  rests : s.RestsVacant
  talks : s.Talks none
  tables : TablesOk s
  stations : StationsOk s

/-- Min run is not 0 (R93). -/
theorem GeneralRow.minRun_pos {x : GeneralRow} (h : x.ok = true) : 1 ≤ x.minRun := by
  simp only [GeneralRow.ok, inRange, Bool.and_eq_true, decide_eq_true_eq] at h
  omega

theorem State.Inv.conversing (hs : s.Inv) : s.Conversing := by
  obtain ⟨⟨-, -, -, hgeneral⟩, -⟩ := hs.tables
  exact ⟨hs.sound, hs.restsVacant, ⟨harvestOk_iff.1 hs.harvest, hs.dialogues, GeneralRow.minRun_pos hgeneral⟩,
    hs.tables, hs.stations⟩

theorem State.context_of_vacant (h : s.roster.Vacant) (c : ContextNo) : s.context c = none :=
  Option.map_eq_none_iff.1 (h c)

/-! ### Power (R173, R175, R176) -/

theorem powerOnBase_talks (htables : TablesOk s) : (powerOnBase s).Talks none := by
  obtain ⟨-, ⟨-, -, -, himage⟩, -⟩ := htables
  refine .of_silent (fun c => ?_) (fun p => ?_) (fun p => ?_) ?_
  · simp [powerOnBase, State.context, Engine.start, Vector.get_eq_getElem]
  · simp [powerOnBase, State.port, PortUnit.start]
  · simp [powerOnBase, State.port, PortUnit.start]
  · simp only [powerOnBase, State.general]
    split
    · exact GeneralRow.minRun_pos himage
    · decide

/-- A part that rests has no dialogue, and going to sleep or waking up empties every port. -/
theorem modAllPorts_talks_of_vacant {f : PortUnit → PortRow → PortUnit} (h : s.Talks off) (hv : s.roster.Vacant)
    (hf : ∀ x row, (f x row).harvest = [] ∧ (f x row).tx = none) : (modAllPorts s f).Talks off := by
  refine .of_silent (fun c => ?_) (fun p => ?_) (fun p => ?_) ?_
  · rw [State.context_eq (by simp : (modAllPorts s f).engine = s.engine)]
    exact State.context_of_vacant hv c
  · rw [modAllPorts_port]
    exact (hf _ _).1
  · rw [modAllPorts_port]
    exact (hf _ _).2
  · rw [State.general_eq (by simp : (modAllPorts s f).tables = s.tables)]
    exact h.minRun

theorem enterSleep_talks (h : s.Talks off) (hv : s.roster.Vacant) : (enterSleep s).Talks off := by
  refine (modAllPorts_talks_of_vacant (f := PortUnit.sleep) h hv fun x row => ?_).of_same ?_ ?_ ?_
  · unfold PortUnit.sleep
    dsimp only
    (repeat' split) <;> exact ⟨rfl, rfl⟩
  all_goals simp [enterSleep]

theorem wakeUp_talks (h : s.Talks off) (hv : s.roster.Vacant) : (wakeUp s).Talks off := by
  have hport : ∀ p, (wakeUp s).port p = PortUnit.wake (s.port p) (s.portRow p) := fun p => by
    rw [wakeUp_eq]
    exact modAllPorts_port s PortUnit.wake p
  refine .of_silent (fun c => ?_) (fun p => by rw [hport]; rfl) (fun p => by rw [hport]; rfl) ?_
  · rw [wakeUp_eq]
    exact State.context_of_vacant hv c
  · rw [wakeUp_eq]
    exact h.minRun

/-- SOFT_RESET up to the cut of all dialogues (R164). -/
def State.resetting (s : State) : State :=
  (flushDue (stopRound ((s.modManagement fun m => { m with pendingCommit := none }).modStreamer fun x =>
    { x with state := .idle }) .off)).modSurvey fun v => { v with grace := none, roundNumber := 0 }

theorem softReset_eq (s : State) : softReset s = finishSlots (emptyRings
    { modAllPorts (cutAll s.resetting) PortUnit.softReset with
      engine := { (modAllPorts (cutAll s.resetting) PortUnit.softReset).engine with lastGranted := 2 } }) := rfl

theorem State.resetting_roster (s : State) : s.resetting.roster = Roster.flush { s.roster with commit := none } :=
  flushDue_roster _

theorem State.resetting_ok (hok : s.roster.Ok) : s.resetting.roster.Ok :=
  s.resetting_roster ▸ (hok.withCommit none).flush

theorem State.resetting_waiting (s : State) : s.resetting.roster.Waiting := fun pc hpc => by
  rw [State.resetting_roster] at hpc
  cases hpc

theorem State.Talks.lastGranted (h : s.Talks off) (p : Port) :
    State.Talks { s with engine := { s.engine with lastGranted := p } } off := ⟨h.wiring, h.dialogues, h.minRun⟩

theorem State.Talks.finishSlots (h : s.Talks off) : (finishSlots (emptyRings s)).Talks off := h.of_same

theorem softReset_talks (hok : s.roster.Ok) (h : s.Talks off) : (softReset s).Talks off := by
  have hok' := State.resetting_ok hok
  have hcut : (cutAll s.resetting).Talks off := cutAll_talks hok' s.resetting_waiting h.of_same
  have hvacant := cutAll_vacant hok' s.resetting_waiting
  have hports := modAllPorts_talks_of_vacant (f := PortUnit.softReset) hcut hvacant fun _ _ => ⟨rfl, rfl⟩
  rw [softReset_eq]
  exact (hports.lastGranted 2).finishSlots

theorem checkSleep_asks (s : State) : s.Asks (checkSleep s) := by
  apply State.Asks.of_same <;> simp

/-! ### Requests -/

theorem respond_asks (s : State) (p : Port) (frames : List (List Byte)) : s.Asks (respond s p frames) :=
  (queueOutput_asks s p _).before

theorem serve_talks {k : RequestKind} {effect : State → Port → List Byte → Answer} (h : s.Talks none)
    (heffect : ∀ p data, (effect s p data).state.Talks none) : (checkSleep (serve s k effect)).Talks none := by
  refine (checkSleep_asks _).talks ?_
  unfold serve
  split
  · next p data _ =>
    dsimp only
    split
    · exact (respond_asks _ p _).talks (heffect p data)
    · exact h
  · exact h
  · exact h

theorem needBytes_talks {k : Nat} {data : List Byte} {a : Answer} (h : s.Talks off) (ha : a.state.Talks off) :
    (needBytes k s data a).state.Talks off := by
  unfold needBytes
  split
  · exact h
  · exact ha

theorem stopSurvey_talks (hok : s.roster.Ok) (hwaiting : s.roster.Waiting) (h : s.Talks off) :
    (stopSurvey s).Talks off := by
  have hkeeps : s.Keeps ((flushDue (stopRound s .off)).modSurvey fun v => { v with grace := none }) :=
    ((flushDue_keeps (stopRound s .off)).after rfl).before rfl
  obtain ⟨hok', hwaiting', -⟩ := hkeeps hok hwaiting
  exact cutAll_talks hok' hwaiting' h.of_same

theorem startSurvey_asks (s : State) (mode : SurveyMode) : s.Asks (startSurvey s mode) := by
  have hmoded : s.Asks ((s.modTables fun t => { t with general := { t.general with surveyMode := mode } }).modSurvey
      fun v => { v with roundTimer := 0, roundNumber := 0 }) := ⟨State.wiring_eq rfl rfl rfl, rfl, fun _ => .inl rfl⟩
  unfold startSurvey
  dsimp only
  split
  · exact hmoded.trans (startRound_asks _)
  · exact hmoded.before

/-- A committed GENERAL row has passed its checks (R158). -/
theorem decodeGeneral_ok {bs : List Byte} {row : GeneralRow} (h : decodeGeneral bs = some row) : row.ok = true := by
  unfold decodeGeneral at h
  dsimp only at h
  split at h
  · obtain ⟨hok, rfl⟩ := keepIf_eq_some_iff.1 h
    rw [Bool.and_eq_true] at hok
    exact hok.2
  · cases h

theorem applyGeneral_talks (h : s.Talks off) {row : GeneralRow} (hrow : row.ok = true) :
    (applyGeneral s row).Talks off := by
  have hbase : ∀ k : Clock, State.Talks { s with tables := { s.tables with general := row }, clock := k } off :=
    fun k => ⟨h.wiring, h.dialogues, GeneralRow.minRun_pos hrow⟩
  rw [applyGeneral_eq]
  dsimp only
  split
  · exact (keyOnEvent_asks _).talks (hbase _)
  · exact hbase _

theorem commitRow_talks (hs : s.roster.Sound) (h : s.Talks none) (table row : Nat) :
    (commitRow s table row).state.Talks none := by
  have happly : ∀ {α : Type} (x : Option α) (f : α → State), (∀ a, x = some a → (f a).Talks none) →
      (applyDecoded s x f).state.Talks none := by
    intro α x f hf
    cases x with
    | none => exact h
    | some a => exact hf a rfl
  unfold commitRow
  dsimp only
  (repeat' split)
  · exact happly _ _ fun _ _ => ⟨h.wiring, h.dialogues, h.minRun⟩
  · exact h
  · exact (applyOrDefer_asks hs.ok _).talks h
  · exact h
  · exact (applyOrDefer_asks hs.ok _).talks h
  · exact h
  · exact happly _ _ fun r _ => applyPortRow_talks hs h _ r
  · exact h
  · exact happly _ _ fun r hr => applyGeneral_talks h (decodeGeneral_ok hr)
  · exact h
  · exact h

/-! ### Streams -/

theorem queueHeld_asks (s : State) : s.Asks (queueHeld s) := by
  unfold queueHeld
  (repeat' split)
  · exact (queueOutput_asks s _ _).before
  · exact (queueOutput_asks s _ _).before
  all_goals exact .of_same rfl rfl rfl

theorem lookExport_asks (s : State) : s.Asks (lookExport s) := by
  unfold lookExport exportEntry endExport
  dsimp only
  (repeat' split)
  · exact (queueOutput_asks s _ _).before
  · exact (queueOutput_asks s _ _).before
  · exact (queueOutput_asks s _ _).before
  all_goals exact .of_same rfl rfl rfl

theorem lookSnapshot_asks (s : State) : s.Asks (lookSnapshot s) := by
  have hend : ∀ b, s.Asks (endSnapshot s b) := by
    intro b
    cases b <;> exact (queueOutput_asks s _ _).before
  unfold lookSnapshot snapshotFrame
  dsimp only
  (repeat' split)
  · exact hend false
  · exact .refl s
  · exact hend true
  · exact .refl s
  · exact (queueOutput_asks s _ _).before
  all_goals exact .of_same rfl rfl rfl

theorem queueNotice_asks (s : State) : s.Asks (queueNotice s) := by
  unfold queueNotice
  split
  · exact (queueOutput_asks s _ _).before
  · exact .refl s

/-! ### Every command -/

theorem execGrant_talks (hs : s.Conversing) : Leads (execGrant s) fun t => t.Talks none := by
  unfold execGrant
  split
  · next g hg =>
    obtain ⟨hfree, -, -⟩ := nextGrant_spec hg
    have hruns : (abandonSave s).Talks none := hs.talks.of_same (by simp) (by simp) (by simp)
    have hcontext : (abandonSave s).context g.context = none := by
      rw [State.context_eq (by simp : (abandonSave s).engine = s.engine), hfree]
    have hstation : ((abandonSave s).station g.station).Ok := by
      rw [State.station_eq (by simp : (abandonSave s).survey = s.survey)]
      exact hs.stations g.station
    have htables : (abandonSave s).tables = s.tables := by simp
    exact leads_next.2 ((lookCheck_asks _).talks (bindContext_talks hruns hcontext hstation
      (State.stationRow_eq htables g.station ▸ hs.tables.1.retryLimit_le g.station)))
  · exact leads_next.2 hs.talks

theorem exec_talks (i : Instr) (hs : s.Conversing) : Leads (exec i s) fun t => t.Talks none := by
  obtain ⟨hsound, hrests, h, ⟨htables, himage, -⟩, hstations⟩ := id hs
  obtain ⟨hok, hwaiting, -⟩ := id hsound
  have hasked : ∀ {t : State}, s.Asks t → Leads (.next t) fun t => t.Talks none := fun k => leads_next.2 (k.talks h)
  have hkept : ∀ {t : State}, t.tables = s.tables → t.ports = s.ports → t.engine = s.engine →
      Leads (.next t) fun t => t.Talks none := fun h1 h2 h3 => hasked (.of_same h1 h2 h3)
  have hchecked : ∀ {t : State}, t.Talks none → Leads (.next (checkSleep t)) fun t => t.Talks none :=
    fun k => leads_next.2 ((checkSleep_asks _).talks k)
  cases i with
  | powerOn => exact leads_next.2 ((keyOnAtStart_asks _).talks (powerOnBase_talks hs.tables))
  | arrival p f =>
    simp only [exec, execArrival]
    (repeat' split)
    · exact leads_next.2 (takeArrival_talks hok hwaiting h htables p f)
    · exact leads_next.2 h
    · exact leads_refused
  | receiveError p =>
    simp only [exec, execReceiveError]
    split
    · refine hasked ?_
      apply changeErrors_asks <;> exact fun _ => rfl
    · exact leads_next.2 h
  | transmissionSent p => exact leads_next.2 (frameSent_talks h p)
  | transmissionFailed p => exact hchecked (frameFailed_talks hsound h p)
  | lostArbitration => exact leads_next.2 h
  | busIdle p =>
    have hmoved : s.Asks (s.modPort p fun u => { u with state := u.busIdleState (s.portRow p) }) :=
      modPort_asks (fun _ => rfl) fun _ => rfl
    simp only [exec, execBusIdle]
    (repeat' split)
    · exact hasked (hmoved.trans (.after (lookCheck_asks _)))
    · exact hasked hmoved
    · exact leads_next.2 h
  | recoveryEvent p =>
    simp only [exec, execRecoveryEvent]
    split
    · exact hasked (modPort_asks (fun _ => rfl) fun _ => rfl)
    · exact leads_next.2 h
  | transmitChoice p => exact leads_next.2 (choose_talks h p _)
  | guardTimerExpiry p =>
    refine hasked (modPort_asks (fun x => ?_) fun x => ?_) <;> split <;> rfl
  | grant => exact execGrant_talks hs
  | waitTimerExpiry c =>
    simp only [exec, execWaitTimerExpiry]
    (repeat' split)
    · next d hd hwaits =>
      refine hchecked (retryPoint_talks hok h fun d' hd' => ?_)
      cases hd.symm.trans hd'
      simp only [Dialogue.waits, Bool.and_eq_true, decide_eq_true_eq] at hwaits
      exact hwaits.1
    · exact leads_next.2 h
    · exact leads_next.2 h
  | keyLossTimerExpiry =>
    simp only [exec, execKeyLossTimerExpiry]
    (repeat' split)
    · exact hkept rfl rfl rfl
    · exact leads_next.2 (keyOffEvent_talks (s := s.modClock _) hok hwaiting h.of_same)
    · exact hkept rfl rfl rfl
  | roundTick =>
    simp only [exec, execRoundTick]
    (repeat' split)
    · exact hasked ((endRound_asks s).trans (raiseRound_asks _))
    · exact hasked (endRound_asks s)
    · exact hasked (raiseRound_asks s)
    · exact hasked (.refl s)
  | roundEnd =>
    simp only [exec, execRoundEnd]
    split
    · exact hasked (endRound_asks s)
    · exact leads_next.2 h
  | keyOffGraceExpiry =>
    simp only [exec, execKeyOffGraceExpiry]
    split
    · exact hchecked (cutAll_talks (s := s.modSurvey _) hok hwaiting h.of_same)
    · exact leads_next.2 h
  | captureTrigger k =>
    simp only [exec, execCaptureTrigger]
    (repeat' split)
    · exact leads_next.2 h
    · exact hkept (by simp) (by simp) (by simp)
    · exact leads_next.2 h
  | sleepDelayExpiry =>
    simp only [exec, execSleepDelayExpiry]
    split
    · exact hchecked h.of_same
    · exact leads_next.2 h
    · exact leads_next.2 h
  | saveComplete =>
    simp only [exec, execSaveComplete]
    split
    · next hsaving => exact leads_next.2 (enterSleep_talks h.of_same (hrests (by simp [hsaving])))
    · exact leads_next.2 h
  | wake p =>
    simp only [exec, execWake]
    split
    · next hsleep =>
      exact leads_next.2 ((keyOnAtStart_asks _).talks (wakeUp_talks h (hrests (by simp [hsleep.1]))))
    · exact leads_next.2 h
  | internalTick | holdTimerExpiry | postWindowExpiry | noticeIntervalExpiry => exact hkept rfl rfl rfl
  | queueHeldResponse => exact hasked (queueHeld_asks s)
  | exportLook => exact hchecked ((lookExport_asks s).talks h)
  | snapshotLook => exact hchecked ((lookSnapshot_asks s).talks h)
  | queueNotice => exact hasked (queueNotice_asks s)
  | commit =>
    refine leads_next.2 (serve_talks h fun p data => needBytes_talks h ?_)
    split
    · exact h
    · exact commitRow_talks hsound h _ _
  | softReset => exact leads_next.2 (serve_talks h fun _ _ => softReset_talks hok h)
  | surveyStop => exact leads_next.2 (serve_talks h fun _ _ => stopSurvey_talks hok hwaiting h)
  | recover =>
    refine leads_next.2 (serve_talks h fun p data => needBytes_talks h ?_)
    (repeat' split)
    · exact h
    · exact State.Asks.talks (modPort_asks (fun _ => rfl) fun _ => rfl) h
    · exact h
  | readNow =>
    refine leads_next.2 (serve_talks h fun p data => needBytes_talks h ?_)
    (repeat' split)
    · exact h
    · exact h
    · exact h
    · exact (makeUrgent_asks s _).talks h
  | surveyStart =>
    refine leads_next.2 (serve_talks h fun p data => needBytes_talks h ?_)
    split
    · exact (startSurvey_asks s _).talks h
    · exact h
  | clear =>
    refine leads_next.2 (serve_talks h fun p data => needBytes_talks h ?_)
    split
    · refine h.of_same ?_ ?_ ?_ <;> simp [okAnswer]
    · exact h
  | clearAll =>
    refine leads_next.2 (serve_talks h fun _ _ => h.of_same ?_ ?_ ?_) <;> simp [serveClearAll, okAnswer]
  | release =>
    refine leads_next.2 (serve_talks h fun p data => needBytes_talks h ?_)
    split
    · refine h.of_same ?_ ?_ ?_ <;> simp [okAnswer]
    · exact h
  | notices =>
    refine leads_next.2 (serve_talks h fun p data => needBytes_talks h ?_)
    (repeat' split)
    · exact h
    · exact ⟨h.wiring, h.dialogues, h.minRun⟩
    · exact h
  | unknownRequest | status | portStatus | stationStatus | readRow | readEntry | stage | setClock | exportStart
  | exportStop | snapshot =>
    refine leads_next.2 (serve_talks h fun p data => ?_)
    simp only [serveUnknown, serveStatus, servePortStatus, serveStationStatus, serveReadRow, serveReadEntry, serveStage,
      serveSetClock, serveExport, serveExportStop, serveSnapshot, startSnapshot, needBytes, okAnswer, plainAnswer]
    (repeat' split) <;> exact h.of_same

/-- Settles O9: each command keeps every query with its dialogue, and every dialogue as its state wants it. -/
theorem stepKeepsDialogues : Obligations.StepKeepsDialogues := by
  intro s t hs ht
  have htalks : t.Talks none := by
    rcases step_cases ht with ⟨c, rest, -, hc⟩ | ⟨-, c, u, hu, hc⟩ | ⟨-, -, rfl⟩
    · obtain ⟨hsound, hrests, h, htables, hstations⟩ := hs.conversing
      exact exec_talks c (s := { s with pending := rest }) ⟨hsound, hrests, h.of_same, htables, hstations⟩ t hc
    · obtain ⟨hsound, hrests, h, htables, hstations⟩ := hs.conversing
      rcases (idleChoice_cases hu).2 with rfl | rfl
      · exact exec_talks c hs.conversing t hc
      · exact exec_talks c (s := s.choose) ⟨hsound, hrests, h.of_same, htables, hstations⟩ t hc
    · exact passMillisecond_talks hs.conversing.talks
  exact ⟨htalks.dialogues, harvestOk_iff.2 htalks.wiring⟩

end Sys2Proof.Machine

/-! PROOFS. Queries, headers, records and retry points: O35, O36, O37 and O38. -/

namespace Sys2Proof.Machine

variable {s t : State} {c : ContextNo} {d : Dialogue} {k : Nat}

/-! ### The bytes of a query (R80) -/

theorem overlay_length (bytes : List Byte) (pos : Nat) (bs : List Byte) :
    (overlay bytes pos bs).length = bytes.length := by
  induction bs generalizing bytes pos with
  | nil => rfl
  | cons b bs ih => rw [overlay, ih, List.length_set]

theorem getD_set_of_lt {α : Type} {l : List α} {j : Nat} (h : j < l.length) (x y : α) (i : Nat) :
    (l.set j x).getD i y = if i = j then x else l.getD i y := by
  simp only [List.getD_eq_getElem?_getD, List.getElem?_set]
  by_cases hij : j = i
  · subst hij
    simp [h]
  · simp [hij, Ne.symm hij]

/-- Bytes written over others are read where they were written. -/
theorem overlay_getD {bytes bs : List Byte} {pos : Nat} (h : pos + bs.length ≤ bytes.length) (i : Nat) :
    (overlay bytes pos bs).getD i 0 =
      if pos ≤ i ∧ i < pos + bs.length then bs.getD (i - pos) 0 else bytes.getD i 0 := by
  induction bs generalizing bytes pos with
  | nil =>
    rw [if_neg (by simp)]
    rfl
  | cons b bs ih =>
    simp only [List.length_cons] at h ⊢
    rw [overlay, ih (by rw [List.length_set]; omega), getD_set_of_lt (by omega)]
    rcases lt_trichotomy i pos with hlt | rfl | hgt
    · rw [if_neg (by omega), if_neg (by omega), if_neg (by omega)]
    · rw [if_neg (by omega), if_pos rfl, if_pos (by omega), Nat.sub_self]
      rfl
    · have hsub : i - pos = i - (pos + 1) + 1 := by omega
      rw [if_neg (by omega : i ≠ pos), hsub, List.getD_cons_succ]
      exact if_congr (by omega) rfl rfl

/-- The query of a row has the row's identifier and as many bytes as the row's template length (R80). -/
theorem buildQuery_data_length (row : StationRow) (fmt : Descriptor) (start : Nat) (h : row.templateLength ≤ 8) :
    (buildQuery row fmt start).data.length = row.templateLength := by
  simp [buildQuery, dataFrame, overlay_length, h]

theorem buildQuery_data_getD {row : StationRow} {fmt : Descriptor} {start i : Nat} (hi : i < row.templateLength)
    (hwindow : fmt.queryWindow ≤ 7) : (buildQuery row fmt start).data.getD i 0 =
      if i = fmt.queryWindow then byte row.window
      else (overlay row.template.toList fmt.queryStart.pos
        (fieldBytes fmt.byteOrder fmt.queryStart.width start)).getD i 0 := by
  rw [← getD_set_of_lt (by rw [overlay_length, Vector.length_toList]; omega)]
  simp only [buildQuery, dataFrame, List.getD_eq_getElem?_getD, List.getElem?_take, if_pos hi]

theorem fieldBytes_one (order : ByteOrder) (v : Nat) : fieldBytes order 1 v = [BitVec.ofNat 8 (v % 256)] := by
  have hmod : BitVec.ofNat 8 (v / 256 ^ 0) = BitVec.ofNat 8 (v % 256) := by
    simp [← BitVec.toNat_inj]
  cases order <;> simp only [fieldBytes, bigEndian, hmod] <;> rfl

theorem fieldBytes_two (order : ByteOrder) (v : Nat) : fieldBytes order 2 v = match order with
    | .mostSignificantFirst => [BitVec.ofNat 8 (v / 256 % 256), BitVec.ofNat 8 (v % 256)]
    | .leastSignificantFirst => [BitVec.ofNat 8 (v % 256), BitVec.ofNat 8 (v / 256 % 256)] := by
  have hlow : BitVec.ofNat 8 (v / 256 ^ 0) = BitVec.ofNat 8 (v % 256) := by
    simp [← BitVec.toNat_inj]
  have hhigh : BitVec.ofNat 8 (v / 256 ^ 1) = BitVec.ofNat 8 (v / 256 % 256) := by
    simp [← BitVec.toNat_inj]
  cases order <;> simp only [fieldBytes, bigEndian, hlow, hhigh] <;> rfl

/-- Settles O35: the start index by its width and byte order, the window count over it. -/
theorem queryIsBuiltFromTheTemplate : Obligations.QueryIsBuiltFromTheTemplate := by
  intro row fmt start hfmt hrow f p
  have hlength : row.templateLength ≤ 8 := by
    simp only [StationRow.ok, inRange, Bool.and_eq_true, decide_eq_true_eq] at hrow
    omega
  obtain ⟨hwidth, hpos, hwindow⟩ : (fmt.queryStart.width = 1 ∨ fmt.queryStart.width = 2) ∧
      fmt.queryStart.pos + fmt.queryStart.width ≤ 8 ∧ fmt.queryWindow ≤ 7 := by
    simp only [Descriptor.ok, Field.ok, inRange, Bool.and_eq_true, decide_eq_true_eq] at hfmt
    omega
  have hdata : f.data.length = row.templateLength := buildQuery_data_length row fmt start hlength
  refine ⟨rfl, rfl, hdata, ?_, fun i hi => ?_⟩
  · have hdlc : f.dlc = row.templateLength := hdata
    have hremote : f.remote = false := rfl
    simp [Frame.wf, hdata, hdlc, hremote, hlength]
  · rw [buildQuery_data_getD hi hwindow]
    simp only [p]
    refine if_congr Iff.rfl rfl ?_
    rcases hwidth with hw | hw
    · rw [hw, fieldBytes_one, overlay_getD (by simpa [hw] using hpos), List.length_singleton]
      by_cases hip : i = fmt.queryStart.pos
      · simp [hip]
      · rw [if_neg (by omega)]
        simp [hip]
    · have hlen : (fieldBytes fmt.byteOrder 2 start).length = 2 := by
        rw [fieldBytes_two]
        cases fmt.byteOrder <;> rfl
      rw [hw, overlay_getD (by rw [hlen, Vector.length_toList, ← hw]; exact hpos), hlen, fieldBytes_two]
      by_cases hip : i = fmt.queryStart.pos
      · cases fmt.byteOrder <;> simp [hip]
      by_cases hip' : i = fmt.queryStart.pos + 1
      · cases fmt.byteOrder <;> simp [hip']
      · rw [if_neg (by omega)]
        simp [hip, hip']

/-! ### Headers (R84, R85, R86) -/

theorem takeHeader_of_later {n : Nat} (h : d.n = some n) : takeHeader s c d k =
    if k < d.expected then closeDialogue s c .short else acceptHeader s c d k := by
  simp only [takeHeader, h]

theorem takeHeader_of_fresh (h : d.n = none) (ho : d.origin = .fromZero) :
    takeHeader s c d k = acceptHeader (clearSeen s d.station) c d k := by
  simp only [takeHeader, h, ho]

theorem takeHeader_of_resumed (h : d.n = none) (ho : d.origin = .resumed) : takeHeader s c d k =
    if d.resumeN = some k then acceptHeader s c d k else restartPass s c d k := by
  simp only [takeHeader, h, ho]

theorem acceptHeader_of_le (h : k ≤ d.expected) : acceptHeader s c d k = closeDialogue (s.setContext c (some
    { d with n := some k, resumeN := none, waitTimer := some (s.stationRow d.station).waitTime })) c .complete :=
  if_pos h

theorem acceptHeader_of_lt (h : d.expected < k) : acceptHeader s c d k = s.setContext c (some
    { d with
      n := some k, resumeN := none, waitTimer := some (s.stationRow d.station).waitTime, phase := .receiving,
      windowEnd := min (d.expected + (s.stationRow d.station).window) k }) :=
  if_neg (Nat.not_le.2 h)

/-- Settles O36: by the header's place in the pass, and for the first of a resumed pass by its N. -/
theorem headersSettleThePass : Obligations.HeadersSettleThePass := by
  intro s c d k _ row fresh restart shrunk cleared base accepted
  have hcleared : cleared = clearSeen s d.station := by simp [cleared, clearSeen, State.modEntries, State.modStore]
  have haccepted : ∀ {t : State}, t.tables = s.tables → takeHeader s c d k = acceptHeader t c d k →
      (k ≤ d.expected → takeHeader s c d k = closeDialogue (t.setContext c (some accepted)) c .complete) ∧
      (d.expected < k → takeHeader s c d k = t.setContext c (some
        { accepted with phase := .receiving, windowEnd := min (d.expected + row.window) k })) := by
    intro t htables htake
    have hrow : t.stationRow d.station = row := State.stationRow_eq htables d.station
    rw [htake]
    refine ⟨fun h => ?_, fun h => ?_⟩
    · rw [acceptHeader_of_le h, hrow]
    · rw [acceptHeader_of_lt h, hrow]
  rcases hn : d.n with _ | n
  · have hshrunk : ¬ shrunk := fun h => h.1 hn
    by_cases ho : d.origin = .fromZero
    · have hrestart : ¬ restart := fun h => by simp [restart, ho] at h
      have hbase : base = clearSeen s d.station := (if_pos (.inl ⟨hn, ho⟩)).trans hcleared
      obtain ⟨hle, hlt⟩ := haccepted (t := base) (by rw [hbase]; rfl) (by rw [hbase]; exact takeHeader_of_fresh hn ho)
      exact ⟨(absurd · hshrunk), (absurd · hrestart), fun _ _ => hle, fun _ _ => hlt⟩
    · have hfresh : ¬ fresh := fun h => ho h.2
      replace ho : d.origin = .resumed := by cases h : d.origin with
        | fromZero => exact absurd h ho
        | resumed => rfl
      by_cases hr : d.resumeN = some k
      · have hrestart : ¬ restart := fun h => h.2.2 hr
        have hbase : base = s := if_neg (not_or.2 ⟨hfresh, hrestart⟩)
        obtain ⟨hle, hlt⟩ := haccepted (t := base) (by rw [hbase])
          (by rw [hbase]; exact (takeHeader_of_resumed hn ho).trans (if_pos hr))
        exact ⟨(absurd · hshrunk), (absurd · hrestart), fun _ _ => hle, fun _ _ => hlt⟩
      · have hrestart : restart := ⟨hn, ho, hr⟩
        have hbase : base = clearSeen s d.station := (if_pos (.inr hrestart)).trans hcleared
        refine ⟨(absurd · hshrunk), fun _ => ?_, fun _ h => absurd hrestart h, fun _ h => absurd hrestart h⟩
        rw [takeHeader_of_resumed hn ho, if_neg hr, hbase]
        rfl
  · have hfresh : ¬ fresh := fun h => by simp [fresh, hn] at h
    have hrestart : ¬ restart := fun h => by simp [restart, hn] at h
    have hbase : base = s := if_neg (not_or.2 ⟨hfresh, hrestart⟩)
    have htake := takeHeader_of_later (s := s) (c := c) (k := k) hn
    by_cases hk : k < d.expected
    · have hshrunk : shrunk := ⟨by simp [hn], hk⟩
      exact ⟨fun _ => htake.trans (if_pos hk), (absurd · hrestart), (absurd hshrunk ·), (absurd hshrunk ·)⟩
    · have hshrunk : ¬ shrunk := fun h => hk h.2
      obtain ⟨hle, hlt⟩ := haccepted (t := base) (by rw [hbase]) (by rw [hbase]; exact htake.trans (if_neg hk))
      exact ⟨(absurd · hshrunk), (absurd · hrestart), fun _ _ => hle, fun _ _ => hlt⟩

/-! ### Records (R87, R88, R89) -/

theorem afterAdvance_of_context {e : Dialogue} (he : t.context c = some e) : afterAdvance t c =
    if e.n = some e.expected then closeDialogue t c .complete
    else if e.expected = e.windowEnd then windowBoundary t c e else t := by
  simp only [afterAdvance, he]

/-- Settles O37: an accepted record advances its dialogue, the checks set at most yield-pending flags, and the list's
or the window's end follows. -/
theorem recordsAdvanceTheDialogue : Obligations.RecordsAdvanceTheDialogue := by
  intro s c d i r hs hd hphase row
  refine ⟨fun h => if_pos h, fun h => ?_, ?_⟩
  · rw [takeRecord, if_neg (by omega), if_neg (by omega)]
  intro h advanced t
  have hyields : (s.recorded c d r).YieldOnly t :=
    (maxRunCheck_yieldOnly (s.recorded c d r) c).trans (preemptionCheck_yieldOnly _)
  have htake : takeRecord s c d i r = afterAdvance t c := by
    rw [takeRecord, if_neg (by omega), if_pos h, acceptRecord_eq]
    rfl
  have hrow : t.stationRow d.station = row := by
    obtain ⟨-, htables, -⟩ := hyields.fields
    obtain ⟨-, htables', -⟩ := takeMerge_frame s (r.merge d.station .readback)
    exact (State.stationRow_eq htables _).trans (State.stationRow_eq htables' _)
  obtain ⟨e, he, hn, hexpected, hend, hrun, hstation⟩ : ∃ e, t.context c = some e ∧ e.n = d.n ∧
      e.expected = d.expected + 1 ∧ e.windowEnd = d.windowEnd ∧ e.run = min 65535 (d.run + 1) ∧
      e.station = d.station := by
    have hcontext := hyields.2 c
    rw [State.recorded_context hd, if_pos rfl] at hcontext
    rcases hcontext with h | h <;> exact ⟨_, h, rfl, rfl, rfl, rfl, rfl⟩
  refine ⟨hyields, e, he, hexpected, hn, hrun, hend, ?_⟩
  have hadvance := afterAdvance_of_context he
  rw [hn, hexpected, hend] at hadvance
  rw [htake, hadvance]
  refine ⟨fun hlast => if_pos hlast, ?_, fun hlast hfull => ?_⟩
  · intro hlast hfull full
    have hwindow : windowBoundary t c e =
        if e.yieldPending then closeDialogue full c .suspended else sendQuery full c := by
      simp only [full, ← hrow, ← hstation]
      rfl
    rw [if_neg hlast, if_pos hfull.symm, hwindow]
  · rw [if_neg hlast, if_neg (Ne.symm hfull)]

/-! ### Retry points (R90, R91) -/

theorem setContext_setContext (s : State) (c : ContextNo) (x y : Option Dialogue) :
    (s.setContext c x).setContext c y = s.setContext c y := by
  have hcontexts : modifyAt (modifyAt s.engine.contexts c fun _ => x) c (fun _ => y) =
      modifyAt s.engine.contexts c fun _ => y := Vector.set_set ..
  simp only [State.setContext, hcontexts]

theorem retryPoint_of_context (hd : s.context c = some d) : retryPoint s c =
    if d.retries = 0 then closeDialogue s c .abandoned
    else if d.yieldPending then closeDialogue s c .suspended
    else sendQuery (s.setContext c (some { d with retries := d.retries - 1 })) c := by
  simp only [retryPoint, hd]

theorem execWaitTimerExpiry_of_idle (hd : s.context c = some d) (h : d.phase = .sending ∨ d.waitTimer = none) :
    exec (.waitTimerExpiry c) s = .next s := by
  have hidle : d.waits = false := by rcases h with h | h <;> simp [Dialogue.waits, h]
  simp [exec, execWaitTimerExpiry, hd, hidle]

theorem execWaitTimerExpiry_of_waiting (hd : s.context c = some d) (hphase : d.phase ≠ .sending)
    (htimer : d.waitTimer ≠ none) : exec (.waitTimerExpiry c) s = .next (checkSleep (retryPoint s c)) := by
  have hwaits : d.waits = true := by simp [Dialogue.waits, hphase, Option.isSome_iff_ne_none.2 htimer]
  simp [exec, execWaitTimerExpiry, hd, hwaits]

/-- Settles O38: a query sent again leaves its context bound, so that the retention unit's check does nothing. -/
theorem waitTimerExpiryIsARetryPoint : Obligations.WaitTimerExpiryIsARetryPoint := by
  intro c s
  refine ⟨fun h => ?_, fun d hd => ⟨execWaitTimerExpiry_of_idle hd, fun hphase htimer => ?_⟩⟩
  · simp only [exec, execWaitTimerExpiry, h]
  rw [execWaitTimerExpiry_of_waiting hd hphase htimer, retryPoint_of_context hd]
  refine ⟨fun h => by rw [if_pos h], fun h hyield => by rw [if_neg h, if_pos hyield], ?_⟩
  intro h hyield row e
  have hset : (s.setContext c (some { d with retries := d.retries - 1 })).context c =
      some { d with retries := d.retries - 1 } := by rw [State.setContext_context, if_pos rfl]
  rw [if_neg h, if_neg (by simp [hyield] : ¬ d.yieldPending = true),
    checkSleep_of_busy (readyToSleep_of_bound ((sendQuery_context hset c).trans (if_pos rfl))),
    sendQuery_of_context hset, setContext_setContext]
  rfl

end Sys2Proof.Machine

/-! PROOFS. What a look finds, and what a grant binds: O34. -/

namespace Sys2Proof.Machine

variable {s t : State} {c : ContextNo} {p : Port} {g : Grant}

/-! ### What a scan finds (R77) -/

theorem State.scanOrder_nodup (s : State) : s.scanOrder.Nodup := by
  have h : ∀ p : Port, [p + 1, p + 2, p].Nodup := by decide
  exact h _

theorem State.mem_scanOrder (s : State) (p : Port) : p ∈ s.scanOrder := by
  have h : ∀ p q : Port, q ∈ [p + 1, p + 2, p] := by decide
  exact h _ _

/-- What a scan has passed over before it found an element does not meet its test. -/
theorem find?_eq_some_before {α : Type} {test : α → Bool} {l before behind : List α} {a b : α} (hl : l.Nodup)
    (h : l.find? test = some b) (hsplit : l = before ++ b :: behind) (ha : a ∈ before) : test a = false := by
  subst hsplit
  rw [List.find?_append] at h
  cases hbefore : before.find? test with
  | none => simpa using List.find?_eq_none.1 hbefore a ha
  | some x =>
    rw [hbefore, Option.some_or] at h
    cases h
    exact absurd List.mem_cons_self (List.disjoint_of_nodup_append hl (List.mem_of_find?_eq_some hbefore))

theorem DueQueue.head_eq_none_iff {q : DueQueue} : q.head = none ↔ q.isEmpty = true := by
  obtain ⟨_ | ⟨u, us⟩, _ | ⟨n, ns⟩⟩ := q <;> simp [DueQueue.head, DueQueue.isEmpty]

theorem DueQueue.head_urgent_iff {q : DueQueue} {n : StationNo} {b : Bool} (h : q.head = some (n, b)) :
    b = true ↔ q.urgent ≠ [] := by
  obtain ⟨_ | ⟨u, us⟩, _ | ⟨m, ms⟩⟩ := q <;> simp_all [DueQueue.head]

/-- The ports that a scan passes over before it comes to `p`. -/
def State.Passed (s : State) (p q : Port) : Prop := ∃ before behind, s.scanOrder = before ++ p :: behind ∧ q ∈ before

theorem State.grantPort_eq_none_iff :
    s.grantPort = none ↔ ∀ p, s.eligible p = true → (s.due p).isEmpty = true := by
  have hnone : (s.scanOrder.find? fun p => s.eligible p && !(s.due p).isEmpty) = none ↔
      ∀ p, s.eligible p = true → (s.due p).isEmpty = true := by
    simp [List.find?_eq_none, s.mem_scanOrder]
  rw [← hnone]
  unfold State.grantPort
  split
  · next p hp =>
    have hurgent := List.find?_some hp
    simp only [Bool.and_eq_true] at hurgent
    refine iff_of_false nofun fun h => ?_
    have := hnone.1 h p hurgent.1
    simp [DueQueue.isEmpty_iff.1 this] at hurgent
  · exact Iff.rfl

/-- The urgent scan finds the first eligible port with an urgent station; without one, the any scan finds the first
with a station. -/
theorem State.grantPort_spec (h : s.grantPort = some p) : s.eligible p = true ∧ (s.due p).isEmpty = false ∧
    ((s.due p).urgent ≠ [] ∧ (∀ q, s.Passed p q → s.eligible q = true → (s.due q).urgent = []) ∨
      (∀ q, s.eligible q = true → (s.due q).urgent = []) ∧
        ∀ q, s.Passed p q → s.eligible q = true → (s.due q).isEmpty = true) := by
  unfold State.grantPort at h
  split at h
  · next hfind =>
    cases h
    have hp := List.find?_some hfind
    simp only [Bool.and_eq_true, Bool.not_eq_true', List.isEmpty_eq_false_iff] at hp
    refine ⟨hp.1, DueQueue.isEmpty_eq_false_iff.2 (.inl hp.2), .inl ⟨hp.2,
      fun q ⟨before, behind, hsplit, hq⟩ helig => ?_⟩⟩
    simpa [helig] using find?_eq_some_before s.scanOrder_nodup hfind hsplit hq
  · next hnone =>
    have hp := List.find?_some h
    simp only [Bool.and_eq_true, Bool.not_eq_true'] at hp
    refine ⟨hp.1, hp.2, .inr ⟨fun q helig => ?_, fun q ⟨before, behind, hsplit, hq⟩ helig => ?_⟩⟩
    · simpa [helig] using List.find?_eq_none.1 hnone q (s.mem_scanOrder q)
    · simpa [helig] using find?_eq_some_before s.scanOrder_nodup h hsplit hq

theorem State.freeContext_spec (h : s.freeContext = some c) :
    s.context c = none ∧ ∀ c', c' < c → s.context c' ≠ none := by
  refine ⟨by simpa using List.find?_some h, fun c' hlt => ?_⟩
  obtain ⟨-, before, behind, hsplit, -⟩ := List.find?_eq_some_iff_append.1 h
  have hmem : c' ∈ before := by
    have hc' : c' ∈ before ++ c :: behind := hsplit ▸ List.mem_finRange c'
    have hsorted := allContexts_sorted
    rw [hsplit, List.pairwise_append, List.pairwise_cons] at hsorted
    obtain ⟨-, ⟨hbehind, -⟩, -⟩ := hsorted
    rcases List.mem_append.1 hc' with hin | hin
    · exact hin
    · rcases List.mem_cons.1 hin with rfl | hin
      · exact absurd hlt (lt_irrefl _)
      · exact absurd hlt (lt_asymm (hbehind c' hin))
  have hbound := find?_eq_some_before allContexts_nodup h hsplit hmem
  exact fun hfree => by simp [hfree] at hbound

theorem State.nextGrant_eq_none_iff : s.nextGrant = none ↔ s.freeContext = none ∨ s.grantPort = none := by
  unfold State.nextGrant
  cases hc : s.freeContext with
  | none => simp
  | some c =>
    cases hp : s.grantPort with
    | none => simp
    | some p =>
      obtain ⟨-, hqueue, -⟩ := State.grantPort_spec hp
      cases hhead : (s.due p).head with
      | none => exact absurd (DueQueue.head_eq_none_iff.1 hhead) (by simp [hqueue])
      | some x => simp [hhead]

theorem State.nextGrant_parts (h : s.nextGrant = some g) : s.freeContext = some g.context ∧
    s.grantPort = some g.port ∧ (s.due g.port).head = some (g.station, g.urgent) := by
  unfold State.nextGrant at h
  split at h
  · next c p hc hp =>
    split at h
    · next st b hhead =>
      cases h
      exact ⟨hc, hp, hhead⟩
    · cases h
  · cases h

/-- Urgent heads go first, and among those of one kind the first eligible port's in scan order. -/
theorem State.nextGrant_first (h : s.nextGrant = some g) :
    (g.urgent = false → ∀ q, s.eligible q = true → (s.due q).urgent = []) ∧
    ∀ q, s.Passed g.port q → s.eligible q = true →
      (s.due q).urgent = [] ∧ (g.urgent = false → (s.due q).normal = []) := by
  obtain ⟨-, hport, hhead⟩ := State.nextGrant_parts h
  have hurgent := DueQueue.head_urgent_iff hhead
  obtain ⟨-, -, ⟨hne, hnone⟩ | ⟨hnone, hempty⟩⟩ := State.grantPort_spec hport
  · have hnot : g.urgent ≠ false := by simp [hurgent.2 hne]
    exact ⟨fun hfalse => absurd hfalse hnot, fun q hq helig =>
      ⟨hnone q hq helig, fun hfalse => absurd hfalse hnot⟩⟩
  · exact ⟨fun _ => hnone, fun q hq helig =>
      ⟨hnone q helig, fun _ => (DueQueue.isEmpty_iff.1 (hempty q hq helig)).2⟩⟩

/-! ### What a grant binds (R78) -/

/-- The first query of a grant (R80). -/
def State.firstQuery (s : State) (g : Grant) : Query where
  frame := buildQuery (s.stationRow g.station) (s.format (s.stationRow g.station).descriptor)
    (((s.station g.station).resume.map (·.next)).getD 0)
  context := g.context
  grantTag := s.engine.grants

theorem bindContext_eq_modPort (s : State) (g : Grant) : bindContext s g =
    ((s.engaging g).setContext g.context (some (s.granted g))).modPort (s.stationRow g.station).homePort fun x =>
      { x with harvest := x.harvest ++ [s.firstQuery g] } := by
  rw [bindContext_eq, sendQuery_of_context (by rw [State.setContext_context, if_pos rfl]), setContext_setContext]
  rfl

/-- An abandoned save changes the retention unit alone (R174). -/
theorem abandonSave_eq (s : State) : abandonSave s = { s with retention := (abandonSave s).retention } := by
  unfold abandonSave restartSleep
  split <;> rfl

theorem abandonSave_power (s : State) :
    (abandonSave s).retention.power = if s.retention.power = .saving then .run else s.retention.power := by
  unfold abandonSave restartSleep
  split <;> rfl

/-- A grant after an abandoned save binds what it would have bound without one. -/
theorem bindContext_abandonSave (s : State) (g : Grant) : bindContext (abandonSave s) g =
    { bindContext s g with retention := (abandonSave s).retention } := by
  rw [abandonSave_eq]
  generalize (abandonSave s).retention = r
  rw [bindContext_eq_modPort, bindContext_eq_modPort]
  rfl

theorem bindContext_context (s : State) (g : Grant) (c : ContextNo) :
    (bindContext s g).context c = if c = g.context then some (s.granted g) else s.context c := by
  rw [bindContext_eq_modPort, State.modPort_context, State.setContext_context]
  rfl

theorem bindContext_port (s : State) (g : Grant) (p : Port) : (bindContext s g).port p =
    if p = (s.stationRow g.station).homePort then
      { s.port p with harvest := (s.port p).harvest ++ [s.firstQuery g] } else s.port p := by
  rw [bindContext_eq_modPort, State.modPort_port]
  rfl

theorem bindContext_station (s : State) (g : Grant) (n : StationNo) : (bindContext s g).station n =
    if n = g.station then { s.station n with run := .engaged, urgent := false } else s.station n := by
  rw [bindContext_eq_modPort, State.modPort_station, State.setContext_station]
  exact State.modStation_station ..

theorem bindContext_due (s : State) (g : Grant) (p : Port) : (bindContext s g).due p =
    if p = g.port then (s.due p).removeHead else s.due p := by
  rw [bindContext_eq_modPort, State.modPort_due, State.setContext_due]
  exact State.modDue_due ..

theorem bindContext_lastGranted (s : State) (g : Grant) : (bindContext s g).engine.lastGranted = g.port := by
  rw [bindContext_eq_modPort]
  rfl

/-- The check after a grant leaves the new dialogue, whose run is 0 (R94, R95). -/
theorem lookCheck_context_of_run_zero {d : Dialogue} (hmin : 1 ≤ s.general.minRun) (hd : s.context c = some d)
    (hrun : d.run = 0) : (lookCheck s).context c = some d := by
  rcases (lookCheck_asks s).contexts c with h | ⟨e, he, hle, -⟩
  · exact h.trans hd
  · cases hd.symm.trans he
    omega

theorem State.eligible_iff : s.eligible p = true ↔ (s.port p).state.serves = true ∧ (s.contextsOf p).length < 2 := by
  simp [State.eligible]

/-- Settles O34: the two scans, and the fields of the granted state one by one. -/
theorem grantBindsTheHead : Obligations.GrantBindsTheHead := by
  intro s hs
  refine ⟨fun p => ⟨s.contextsOf_nodup p, fun c => State.mem_contextsOf.trans State.boundTo_iff⟩,
    fun p => State.eligible_iff, ?_, fun h => ?_, ?_⟩
  · simp only [State.nextGrant_eq_none_iff, State.freeContext_eq_none_iff, State.grantPort_eq_none_iff,
      DueQueue.isEmpty_iff]
  · simp only [exec, execGrant, h]
  intro g hg x row d query
  obtain ⟨hfreeContext, hport, hhead⟩ := State.nextGrant_parts hg
  obtain ⟨hfree, hlowest⟩ := State.freeContext_spec hfreeContext
  obtain ⟨helig, -⟩ := State.grantPort_spec hport
  obtain ⟨hurgentFirst, hpassed⟩ := State.nextGrant_first hg
  obtain ⟨hserves, hroom⟩ := State.eligible_iff.1 helig
  have hhome : row.homePort = g.port := hs.sound.ok.home_of_holds _ _ (DueQueue.mem_of_head hhead)
  have hgranted : s.granted g = d := by
    have horigin : (if x.resume.isSome then Origin.resumed else .fromZero) =
        if x.resume = none then .fromZero else .resumed := by cases x.resume <;> rfl
    simp only [d, ← horigin]
    rfl
  obtain ⟨-, -, htalks, -⟩ := hs.conversing
  obtain ⟨_, htablesB, hstoreB, hclockB, hsnapshotsB, hmanagementB, _⟩ := bindContext_frame s g
  set bound := bindContext (abandonSave s) g with hbound
  rw [bindContext_abandonSave] at hbound
  have hyields := lookCheck_yieldOnly bound
  obtain ⟨-, htables, hstore, hclock, hsurvey, hports, hsnapshots, hmanagement, -, -, hretention, -, hlast, -⟩ :=
    hyields.fields
  have hcontext : ∀ c, bound.context c = if c = g.context then some d else s.context c := fun c => by
    rw [hbound, ← hgranted]
    exact bindContext_context s g c
  have hstation : ∀ n, (lookCheck bound).station n = (bindContext s g).station n := fun n => by
    rw [State.station_eq hsurvey, hbound]
    rfl
  have hdue : ∀ p, (lookCheck bound).due p = (bindContext s g).due p := fun p => by
    rw [State.due_eq hsurvey, hbound]
    rfl
  have hportOf : ∀ p, (lookCheck bound).port p = (bindContext s g).port p := fun p => by
    rw [State.port_eq hports, hbound]
    rfl
  refine ⟨lookCheck bound, by simp only [exec, execGrant, hg]; rfl, hfree, hlowest, hserves, hroom, hhead, ?_, ?_,
    ?_, ?_, ?_, ?_, ?_, ?_, ?_, ?_, ?_, ?_, ?_, ?_, ?_, ?_, ?_⟩
  · exact hurgentFirst
  · exact fun before behind hsplit q hq => hpassed q ⟨before, behind, hsplit, hq⟩
  · rw [hlast, hbound]
    exact bindContext_lastGranted s g
  · refine lookCheck_context_of_run_zero ?_ ((hcontext _).trans (if_pos rfl)) rfl
    have hsame : bound.tables = s.tables := by rw [hbound]; exact htablesB
    exact State.general_eq hsame ▸ htalks.minRun
  · intro c hc
    have hother := hyields.2 c
    rwa [hcontext, if_neg hc] at hother
  · rw [hstation, bindContext_station, if_pos rfl]
  · intro n hn
    rw [hstation, bindContext_station, if_neg hn]
  · rw [hdue, bindContext_due, if_pos rfl]
  · intro q hq
    rw [hdue, bindContext_due, if_neg hq]
  · rw [hportOf, bindContext_port, if_pos hhome.symm]
    rfl
  · intro q hq
    rw [hportOf, bindContext_port, if_neg (hhome ▸ hq)]
  · rw [hstore, hbound]
    exact hstoreB
  · rw [hsnapshots, hbound]
    exact hsnapshotsB
  · rw [hclock, hbound]
    exact hclockB
  · rw [htables, hbound]
    exact htablesB
  · rw [hmanagement, hbound]
    exact hmanagementB
  · rw [hretention, hbound]
    exact abandonSave_power s

end Sys2Proof.Machine

/-! PROOFS. A frame that has been sent: O19. -/

namespace Sys2Proof.Machine

variable {s t : State} {c : ContextNo} {p : Port}

/-! ### Fault confinement (R120) -/

theorem modPort_congr {f g : PortUnit → PortUnit} (h : f (s.port p) = g (s.port p)) :
    s.modPort p f = s.modPort p g := by
  have hports : modifyAt s.ports p f = modifyAt s.ports p g := congrArg (s.ports.set p.val · p.isLt) h
  exact State.eq_of_components rfl rfl rfl rfl rfl rfl hports rfl rfl rfl rfl rfl rfl

/-- A port that serves is ACTIVE or PASSIVE by its two counts (R120). -/
theorem PortUnit.confined_of_serves {x : PortUnit} (h : x.state.serves = true) :
    x.confined = if x.txErrors < 128 ∧ x.rxErrors < 128 then .active else .passive := by
  have hiff : (128 ≤ x.txErrors ∨ 128 ≤ x.rxErrors) ↔ ¬ (x.txErrors < 128 ∧ x.rxErrors < 128) := by omega
  unfold PortUnit.confined
  cases hstate : x.state with
  | active => simp only [hiff, ite_not]
  | passive => rfl
  | off | joining | busOff | listen | dormant =>
    rw [hstate] at h
    cases h

/-! ### The source is told (R81, R141) -/

/-- A change of a dialogue that does not read its yield-pending flag may come before what sets the flag. -/
theorem State.YieldOnly.modDialogue {f : Dialogue → Dialogue} (h : s.YieldOnly t)
    (hf : ∀ d : Dialogue, f d.yielding = (f d).yielding) : (s.modDialogue c f).YieldOnly (t.modDialogue c f) := by
  refine ⟨?_, fun c' => ?_⟩
  · have hcontexts : t.modDialogue c f =
        { t with engine := { t.engine with contexts := (t.modDialogue c f).engine.contexts } } := rfl
    rw [hcontexts]
    generalize (t.modDialogue c f).engine.contexts = contexts
    rw [h.1]
    rfl
  · simp only [State.modDialogue_context]
    split
    · rcases h.2 c' with hc | hc
      · exact .inl (by rw [hc])
      · refine .inr ?_
        rw [hc]
        cases s.context c' with
        | none => rfl
        | some d => exact congrArg some (hf d)
    · exact h.2 c'

/-- Settles O19: the frame leaves, fault confinement is told, and then the source. -/
theorem sentFrameLeavesTransmitter : Obligations.SentFrameLeavesTransmitter := by
  intro p s x hserves hx u freed told
  set f : PortUnit → PortUnit := fun u => { u with tx := none, txErrors := u.txErrors - 1 } with hf
  have hyields : freed.YieldOnly (changeErrors s p f) := by
    have hconfined : (f (s.port p)).confined = _ := PortUnit.confined_of_serves hserves
    have hfreed : freed = s.modPort p fun u => { f u with state := (f u).confined } := by
      refine modPort_congr ?_
      rw [hconfined]
    rw [hfreed]
    exact changeErrors_yieldOnly s p f
  refine ⟨tellSource (changeErrors s p f) x, ?_, ?_⟩
  · simp only [exec, execTransmissionSent, frameSent, hx, hserves, if_true]
    rfl
  · cases x with
    | forwarded frame => exact hyields
    | management frame => exact hyields
    | query q =>
      have htables : (changeErrors s p f).tables = s.tables := by simp
      have hwait : ∀ n, (changeErrors s p f).stationRow n = s.stationRow n := State.stationRow_eq htables
      rw [tellSource, querySent_eq]
      simp only [hwait]
      refine hyields.modDialogue (f := fun d => d.sent q.grantTag (s.stationRow d.station).waitTime) fun d => ?_
      simp only [Dialogue.sent]
      split <;> rfl

end Sys2Proof.Machine

/-! PROOFS. Dialogues that are ended one after the other, and a port that goes to BUS_OFF: O18. -/

namespace Sys2Proof.Machine

variable {s t u : State} {c : ContextNo} {p : Port} {d : Dialogue} {o : Closing} {which : Port → Prop}

/-! ### Dialogues ended CUT or PORT_LOST (R98, R99) -/

/-- The station of a dialogue that has ended CUT or PORT_LOST (Table 4.4). -/
def StationState.ended (x : StationState) (d : Dialogue) (o : Closing) : StationState :=
  { x with lastOutcome := some o, run := .idle, urgent := false, resume := d.resumePoint.or x.resume }

theorem StationState.ended_resume (x : StationState) (d : Dialogue) (o : Closing) : x.ended d o = { x with
    run := .idle, urgent := false, lastOutcome := some o
    resume := match d.n with
      | some n => some { next := d.expected, n := n }
      | none => x.resume } := by
  unfold StationState.ended Dialogue.resumePoint
  cases d.n <;> rfl

/-- Dialogues of `s` at ports that `which` names have been ended with the outcome `o` on the way to `t`, without a
pending commit: every other dialogue goes on, perhaps asked to yield, and of the ports at most the harvest outputs of
those named lose queries. -/
structure State.Ended (s : State) (o : Closing) (which : Port → Prop) (t : State) : Prop where
  tables : t.tables = s.tables
  management : t.management = s.management
  survey : t.survey = { s.survey with stations := t.survey.stations }
  port : ∀ q, t.port q = { s.port q with harvest := (t.port q).harvest }
  harvest : ∀ q, (t.port q).harvest.Sublist (s.port q).harvest
  untouched : ∀ q, ¬ which q → t.port q = s.port q
  free : ∀ c, s.context c = none → t.context c = none
  station : ∀ n, (s.station n).run ≠ .engaged → t.station n = s.station n
  dialogue : ∀ c d, s.context c = some d →
    ((t.context c = some d ∨ t.context c = some d.yielding) ∧ t.station d.station = s.station d.station) ∨
    (which (s.dialoguePort d) ∧ t.context c = none ∧ t.station d.station = (s.station d.station).ended d o)

theorem State.Ended.refl (s : State) (o : Closing) (which : Port → Prop) : s.Ended o which s :=
  ⟨rfl, rfl, rfl, fun _ => rfl, fun _ => .refl _, fun _ _ => rfl, fun _ => id, fun _ _ => rfl,
    fun _ _ hd => .inl ⟨.inl hd, rfl⟩⟩

theorem State.Ended.dialoguePort (h : s.Ended o which t) (d : Dialogue) : t.dialoguePort d = s.dialoguePort d := by
  simp only [State.dialoguePort, State.stationRow_eq h.tables]

theorem State.Ended.trans (h : s.Ended o which t) (k : t.Ended o which u) : s.Ended o which u where
  tables := k.tables.trans h.tables
  management := k.management.trans h.management
  survey := by rw [k.survey, h.survey]
  port q := by rw [k.port q, h.port q]
  harvest q := (k.harvest q).trans (h.harvest q)
  untouched q hq := (k.untouched q hq).trans (h.untouched q hq)
  free c := k.free c ∘ h.free c
  station n hn := by
    have ht := h.station n hn
    exact (k.station n (ht.symm ▸ hn)).trans ht
  dialogue c d hd := by
    rcases h.dialogue c d hd with ⟨hgoes, hsame⟩ | ⟨hwhich, hfree, hended⟩
    · rcases hgoes with hd' | hd'
      · rcases k.dialogue c d hd' with ⟨hgoes', hsame'⟩ | ⟨hwhich, hfree, hended⟩
        · exact .inl ⟨hgoes', hsame'.trans hsame⟩
        · exact .inr ⟨h.dialoguePort d ▸ hwhich, hfree, hsame ▸ hended⟩
      · rcases k.dialogue c d.yielding hd' with ⟨hgoes', hsame'⟩ | ⟨hwhich, hfree, hended⟩
        · exact .inl ⟨.inr (hgoes'.elim id id), hsame'.trans hsame⟩
        · exact .inr ⟨h.dialoguePort d ▸ hwhich, hfree, hsame ▸ hended⟩
    · have hidle : (t.station d.station).run ≠ .engaged := by
        rw [hended]
        nofun
      exact .inr ⟨hwhich, k.free c hfree, (k.station _ hidle).trans hended⟩

theorem State.Ended.due (h : s.Ended o which t) (q : Port) : t.due q = s.due q := by
  rw [State.due, h.survey]
  rfl

/-- What may follow an end: a look of the context arbiter. -/
theorem State.YieldOnly.ended (h : s.YieldOnly t) : s.Ended o which t := by
  obtain ⟨-, htables, -, -, hsurvey, hports, -, hmanagement, -⟩ := h.fields
  have hport : ∀ q, t.port q = s.port q := State.port_eq hports
  have hstation : ∀ n, t.station n = s.station n := State.station_eq hsurvey
  refine ⟨htables, hmanagement, by rw [hsurvey], fun q => by rw [hport], fun q => by rw [hport], fun q _ => hport q,
    fun c hc => ?_, fun n _ => hstation n, fun c d hd => .inl ⟨?_, hstation _⟩⟩
  · rcases h.2 c with h | h <;> rw [h, hc]
    rfl
  · rcases h.2 c with h | h <;> rw [h, hd]
    · exact .inl rfl
    · exact .inr rfl

/-- The end of one dialogue. -/
theorem closeDialogue_ended (hok : s.roster.Ok) (hnone : s.management.pendingCommit = none)
    (ho : o = .cut ∨ o = .portLost) (hwhich : ∀ d, s.context c = some d → which (s.dialoguePort d)) :
    s.Ended o which (closeDialogue s c o) := by
  cases hd : s.context c with
  | none =>
    have hfree : closeDialogue s c o = s := by simp [closeDialogue, hd]
    exact hfree.symm ▸ .refl s o which
  | some d =>
    have hbound := State.roster_bound_of_context hd
    have hclose : closeDialogue s c o = lookCheck (((withdrawQuery s c d).modStation d.station fun x =>
        x.ended d o).setContext c none) := by
      rw [closeDialogue_of_bound hd hnone]
      rcases ho with rfl | rfl <;> rfl
    rw [hclose]
    refine State.Ended.trans ?_ (lookCheck_yieldOnly _).ended
    have hport : ∀ q, (withdrawQuery s c d).port q = { s.port q with
        harvest := ((withdrawQuery s c d).port q).harvest } ∧
        ((withdrawQuery s c d).port q).harvest.Sublist (s.port q).harvest ∧
        (q ≠ s.dialoguePort d → (withdrawQuery s c d).port q = s.port q) := fun q => by
      rw [withdrawQuery, State.modPort_port]
      split
      · next hq => exact ⟨rfl, List.filter_sublist, fun hne => absurd hq hne⟩
      · exact ⟨rfl, .refl _, fun _ => rfl⟩
    refine ⟨rfl, rfl, rfl, fun q => (hport q).1, fun q => (hport q).2.1, fun q hq => (hport q).2.2 ?_, fun c' hc' => ?_,
      fun n hn => ?_, fun c' d' hd' => ?_⟩
    · rintro rfl
      exact hq (hwhich d hd)
    · rw [State.setContext_context]
      split
      · rfl
      · exact hc'
    · rw [State.setContext_station, State.modStation_station, if_neg]
      · rfl
      · rintro rfl
        exact hn (hok.run_of_bound hbound)
    · simp only [State.setContext_context, State.setContext_station, State.modStation_station]
      by_cases hc' : c' = c
      · subst hc'
        cases hd.symm.trans hd'
        exact .inr ⟨hwhich d hd, if_pos rfl, if_pos rfl⟩
      · have hne : d'.station ≠ d.station := fun h =>
          hc' (hok.eq_of_bound c' c d.station (h ▸ State.roster_bound_of_context hd') hbound)
        exact .inl ⟨.inl ((if_neg hc').trans hd'), if_neg hne⟩

theorem foldl_ended {β : Type} {f : State → β → State} (hkeeps : ∀ (s : State) b, s.Keeps (f s b))
    (hf : ∀ (s : State) b, s.roster.Ok → s.management.pendingCommit = none → s.Ended o which (f s b)) (l : List β) :
    ∀ s : State, s.roster.Ok → s.roster.Waiting → s.management.pendingCommit = none →
      s.Ended o which (l.foldl f s) := by
  induction l with
  | nil => exact fun s _ _ _ => .refl s o which
  | cons b l ih =>
    intro s hok hwaiting hnone
    obtain ⟨hok', hwaiting', -⟩ := hkeeps s b hok hwaiting
    have hstep := hf s b hok hnone
    exact hstep.trans (ih _ hok' hwaiting' (hstep.management ▸ hnone))

theorem cutAll_ended (hok : s.roster.Ok) (hwaiting : s.roster.Waiting) (hnone : s.management.pendingCommit = none) :
    s.Ended .cut (fun _ => True) (cutAll s) :=
  foldl_ended (fun t c => closeDialogue_keeps t c .cut)
    (fun _ _ hok hnone => closeDialogue_ended hok hnone (.inl rfl) fun _ _ => trivial) _ s hok hwaiting hnone

theorem losePort_ended (hok : s.roster.Ok) (hwaiting : s.roster.Waiting) (hnone : s.management.pendingCommit = none)
    (p : Port) : s.Ended .portLost (· = p) (losePort s p) := by
  refine foldl_ended (losePort_round_keeps p) (fun t c hok hnone => ?_) _ s hok hwaiting hnone
  split
  · next hbound =>
    refine closeDialogue_ended hok hnone (.inr rfl) fun d hd => ?_
    obtain ⟨d', hd', hp⟩ := State.boundTo_iff.1 hbound
    cases hd.symm.trans hd'
    exact hp
  · exact .refl t _ _

/-- All dialogues of the lost port have ended, with their resume points (R99). -/
theorem losePort_dialogue (hok : s.roster.Ok) (hwaiting : s.roster.Waiting)
    (hnone : s.management.pendingCommit = none) (hd : s.context c = some d) (hp : s.dialoguePort d = p) :
    (losePort s p).context c = none ∧
      (losePort s p).station d.station = (s.station d.station).ended d .portLost := by
  have hended := losePort_ended hok hwaiting hnone p
  have hgone : ∀ d' : Dialogue, d'.station = d.station → (losePort s p).context c ≠ some d' := by
    intro d' hstation hd'
    refine losePort_home_ne hok hwaiting (State.roster_bound_of_context hd') ?_
    rw [hstation]
    exact (hended.dialoguePort d).trans hp
  rcases hended.dialogue c d hd with ⟨hgoes | hgoes, -⟩ | ⟨-, hfree, hstation⟩
  · exact absurd hgoes (hgone d rfl)
  · exact absurd hgoes (hgone d.yielding rfl)
  · exact ⟨hfree, hstation⟩

/-- The dialogues of other ports go on. -/
theorem State.Ended.context_of_not (h : s.Ended o which t)
    (hc : ∀ d, s.context c = some d → ¬ which (s.dialoguePort d)) :
    t.context c = s.context c ∨ t.context c = (s.context c).map Dialogue.yielding := by
  cases hd : s.context c with
  | none => exact .inl (h.free c hd)
  | some d =>
    rcases h.dialogue c d hd with ⟨hgoes, -⟩ | ⟨hwhich, -⟩
    · exact hgoes
    · exact absurd hwhich (hc d hd)

/-! ### A port that goes to BUS_OFF (R122) -/

/-- The part when the dialogues of the port are about to end: the port in BUS_OFF, and no answer waiting for it
(R122). -/
def State.silenced (s : State) (p : Port) : State := dropWaiting (s.modPort p PortUnit.enterBusOff) p

theorem State.silenced_roster (s : State) (p : Port) : s.roster.ServesAs (s.silenced p).roster := by
  rw [State.silenced, dropWaiting_roster]
  exact modPort_servesAs s p _

theorem State.silenced_eq (s : State) (p : Port) : s.silenced p =
    { s.modPort p PortUnit.enterBusOff with management := (s.silenced p).management } := by
  unfold State.silenced dropWaiting
  (repeat' split) <;> rfl

theorem State.silenced_port (s : State) (p q : Port) :
    (s.silenced p).port q = if q = p then (s.port q).enterBusOff else s.port q := by
  rw [State.silenced_eq]
  exact State.modPort_port ..

theorem State.silenced_context (s : State) (p : Port) (c : ContextNo) : (s.silenced p).context c = s.context c := by
  rw [State.silenced_eq]
  rfl

theorem State.silenced_station (s : State) (p : Port) (n : StationNo) : (s.silenced p).station n = s.station n := by
  rw [State.silenced_eq]
  rfl

theorem State.silenced_due (s : State) (p q : Port) : (s.silenced p).due q = s.due q := by
  rw [State.silenced_eq]
  rfl

theorem State.silenced_dialoguePort (s : State) (p : Port) (d : Dialogue) :
    (s.silenced p).dialoguePort d = s.dialoguePort d := by
  rw [State.silenced_eq]
  rfl

theorem dropWaiting_management (s : State) (p : Port) : (dropWaiting s p).management = { s.management with
    slot := match s.management.slot with
      | .waitingOutput q held => if q = p then .empty else .waitingOutput q held
      | .serving q data => .serving q data
      | .empty => .empty } := by
  unfold dropWaiting
  cases hslot : s.management.slot with
  | waitingOutput q held =>
    dsimp only
    split
    · rfl
    · rw [← hslot]
  | empty | serving =>
    dsimp only
    rw [← hslot]

/-- An entry into BUS_OFF without a pending commit (R99, R122). -/
theorem enterBusOff_ended (hok : s.roster.Ok) (hwaiting : s.roster.Waiting)
    (hnone : s.management.pendingCommit = none) (p : Port) :
    (s.silenced p).Ended .portLost (· = p) (losePort (s.silenced p) p) := by
  have hserves := s.silenced_roster p
  refine losePort_ended (hserves.ok hok) (hserves.waiting hwaiting) ?_ p
  rw [State.silenced, dropWaiting_management]
  exact hnone

theorem pauseStream_streamer (s : State) (p : Port) : (pauseStream s p).streamer =
    if s.streamer.state = .streaming ∧ s.streamer.port = p then { s.streamer with state := .paused }
    else s.streamer := rfl

theorem pauseStream_context (s : State) (p : Port) (c : ContextNo) : (pauseStream s p).context c = s.context c := rfl

/-- What follows the closes of an entry into BUS_OFF: the stream pauses, and a look is taken (R95, R168). -/
theorem enterBusOff_yieldOnly (s : State) (p : Port) :
    (pauseStream (losePort (s.silenced p) p) p).YieldOnly (enterBusOff s p) := settleLook_yieldOnly _ s

/-- A paused stream is all that a look after the closes finds changed. -/
theorem pauseStream_ended (h : s.Ended o which t) (k : (pauseStream t p).YieldOnly u) :
    u.tables = s.tables ∧ u.management = s.management ∧
    (∀ q, u.port q = t.port q) ∧ (∀ n, u.station n = t.station n) ∧ ∀ q, u.due q = s.due q := by
  obtain ⟨-, htables, -, -, hsurvey, hports, -, hmanagement, -⟩ := k.fields
  refine ⟨htables.trans h.tables, hmanagement.trans h.management, State.port_eq hports, State.station_eq hsurvey,
    fun q => (State.due_eq hsurvey q).trans (h.due q)⟩

theorem enterBusOff_port (hok : s.roster.Ok) (hwaiting : s.roster.Waiting)
    (hnone : s.management.pendingCommit = none) (p q : Port) :
    (enterBusOff s p).port q = if q = p then (s.port q).enterBusOff else s.port q := by
  have hended := enterBusOff_ended hok hwaiting hnone p
  obtain ⟨-, -, hport, -⟩ := pauseStream_ended hended (enterBusOff_yieldOnly s p)
  rw [hport, ← State.silenced_port]
  by_cases hq : q = p
  · have hempty := hended.harvest q
    rw [State.silenced_port, if_pos hq] at hempty
    rw [hended.port q, List.sublist_nil.1 hempty, State.silenced_port, if_pos hq]
    rfl
  · exact hended.untouched q hq

theorem enterBusOff_dialogue (hok : s.roster.Ok) (hwaiting : s.roster.Waiting)
    (hnone : s.management.pendingCommit = none) (hd : s.context c = some d) (hp : s.dialoguePort d = p) :
    (enterBusOff s p).context c = none ∧
      (enterBusOff s p).station d.station = (s.station d.station).ended d .portLost := by
  have hserves := s.silenced_roster p
  have hnone' : (s.silenced p).management.pendingCommit = none := by
    rw [State.silenced, dropWaiting_management]
    exact hnone
  obtain ⟨hfree, hstation⟩ := losePort_dialogue (hserves.ok hok) (hserves.waiting hwaiting) hnone'
    ((s.silenced_context p c).trans hd) ((s.silenced_dialoguePort p d).trans hp)
  have hyields := enterBusOff_yieldOnly s p
  obtain ⟨-, -, -, hsame, -⟩ := pauseStream_ended (enterBusOff_ended hok hwaiting hnone p) hyields
  refine ⟨?_, by rw [hsame, hstation, State.silenced_station]⟩
  rcases hyields.2 c with h | h <;> rw [h, pauseStream_context, hfree]
  rfl

theorem enterBusOff_context (hok : s.roster.Ok) (hwaiting : s.roster.Waiting)
    (hnone : s.management.pendingCommit = none) (hc : s.boundTo p c = false) :
    (enterBusOff s p).context c = s.context c ∨
      (enterBusOff s p).context c = (s.context c).map Dialogue.yielding := by
  have hother : ∀ d, (s.silenced p).context c = some d → ¬ (s.silenced p).dialoguePort d = p := fun d hd hp => by
    rw [State.silenced_context] at hd
    rw [State.silenced_dialoguePort] at hp
    simp [State.boundTo_iff.2 ⟨d, hd, hp⟩] at hc
  have hkept := (enterBusOff_ended hok hwaiting hnone p).context_of_not hother
  rw [State.silenced_context, ← pauseStream_context _ p] at hkept
  exact yields_trans hkept ((enterBusOff_yieldOnly s p).2 c)

/-- A failed attempt that is one too many (R120, R122). -/
theorem frameFailed_of_busOff (hserves : (s.port p).state.serves = true) (htx : (s.port p).tx ≠ none)
    (hlimit : 256 ≤ (s.port p).txErrors + 8) : frameFailed s p =
      enterBusOff (s.modPort p fun u => { u with txErrors := u.txErrors + 8 }) p := by
  obtain ⟨x, hx⟩ := Option.ne_none_iff_exists'.1 htx
  simp only [frameFailed, hx, hserves, if_true, if_pos hlimit]

/-- Settles O18: the port's own part, the closes of its dialogues, and the stream to it. -/
theorem busOffTakesThePortDown : Obligations.BusOffTakesThePortDown := by
  intro p s hs hnone hserves htx hlimit u inTx
  set raised := s.modPort p fun u => { u with txErrors := u.txErrors + 8 } with hraised
  have hroster : raised.roster = s.roster := modPort_roster fun _ => rfl
  have hok : raised.roster.Ok := hroster ▸ hs.sound.ok
  have hwaiting : raised.roster.Waiting := hroster ▸ hs.sound.waiting
  have hyields := enterBusOff_yieldOnly raised p
  obtain ⟨htables, hmanagement, -, -, hdue⟩ := pauseStream_ended (enterBusOff_ended hok hwaiting hnone p) hyields
  have hport := enterBusOff_port hok hwaiting hnone p
  obtain ⟨-, -, -, -, -, -, -, -, hstreamer, -⟩ := hyields.fields
  refine ⟨enterBusOff raised p, ?_, ?_, fun q hq => ?_, fun c d hd hp => ?_, fun c hc => ?_, ?_, ?_, ?_, ?_, ?_, ?_,
    ?_, ?_⟩
  · rw [← frameFailed_of_busOff hserves htx hlimit]
    rfl
  · rw [hport, if_pos rfl, State.modPort_port, if_pos rfl]
    rfl
  · rw [hport, if_neg hq, State.modPort_port, if_neg hq]
  · obtain ⟨hfree, hstation⟩ := enterBusOff_dialogue hok hwaiting hnone hd hp
    exact ⟨hfree, hstation.trans (StationState.ended_resume ..)⟩
  · exact enterBusOff_context hok hwaiting hnone hc
  · rw [hmanagement, State.silenced, dropWaiting_management]
    rfl
  · have hstream : (losePort (raised.silenced p) p).streamer = s.streamer := by simp [State.silenced, raised]
    rw [hstreamer, pauseStream_streamer, hstream]
  · simp [raised]
  · simp [raised]
  · simp [raised]
  · rw [htables, State.silenced_eq]
    rfl
  · simp [raised]
  · exact fun q => (hdue q).trans (State.silenced_due raised p q)

end Sys2Proof.Machine

/-! PROOFS. SOFT_RESET: O57. -/

namespace Sys2Proof.Machine

variable {s t : State} {c : ContextNo} {p q : Port} {d : Dialogue} {n : StationNo}

/-! ### Up to the cut (R164) -/

theorem State.resetting_survey (s : State) : s.resetting.survey = { s.survey with
    state := .off, tick := none, endDue := false, grace := none, roundNumber := 0
    due := Vector.replicate 3 DueQueue.empty
    stations := mapAll (fun x => if x.run = .due then { x with run := .idle, urgent := false } else x)
      s.survey.stations } := rfl

theorem State.resetting_station (s : State) (n : StationNo) : s.resetting.station n =
    if (s.station n).run = .due then { s.station n with run := .idle, urgent := false } else s.station n := by
  rw [State.station, State.resetting_survey]
  exact mapAll_get ..

theorem State.resetting_station_of_engaged (h : (s.station n).run = .engaged) :
    s.resetting.station n = s.station n := by
  rw [State.resetting_station, if_neg (by simp [h])]

/-- A station that is not ENGAGED comes out of the flush IDLE; out of its queue it was IDLE and not urgent before (R71,
R58). -/
theorem State.resetting_station_of_not_engaged (hok : s.roster.Ok) (h : (s.station n).run ≠ .engaged) :
    s.resetting.station n = { s.station n with run := .idle, urgent := false } := by
  rw [State.resetting_station]
  split
  · rfl
  · next hdue =>
    have hrun : (s.station n).run = .idle := by
      cases hr : (s.station n).run with
      | idle => rfl
      | due => exact absurd hr hdue
      | engaged => exact absurd hr h
    have hurgent : (s.station n).urgent = false := by
      by_contra hu
      have hmem := (hok.urgent_iff n).1 (Bool.eq_true_of_not_eq_false hu)
      exact hdue ((hok.due_iff n).2 (.inl hmem))
    rw [← hrun, ← hurgent]

/-! ### The cut -/

theorem State.resetting_ended (hok : s.roster.Ok) : s.resetting.Ended .cut (fun _ => True) (cutAll s.resetting) :=
  cutAll_ended (State.resetting_ok hok) s.resetting_waiting rfl

theorem cutAll_dialogue (hok : s.roster.Ok) (hwaiting : s.roster.Waiting)
    (hnone : s.management.pendingCommit = none) (hd : s.context c = some d) :
    (cutAll s).station d.station = (s.station d.station).ended d .cut := by
  have hfree : (cutAll s).context c = none := State.context_of_vacant (cutAll_vacant hok hwaiting) c
  rcases (cutAll_ended hok hwaiting hnone).dialogue c d hd with ⟨hgoes | hgoes, -⟩ | ⟨-, -, hstation⟩
  · cases hfree.symm.trans hgoes
  · cases hfree.symm.trans hgoes
  · exact hstation

/-! ### The rest of the reset -/

/-- The steps of SOFT_RESET after the cut: the ports, the arbiter, the rings and the slots (R164). -/
def State.restarted (s : State) : State :=
  finishSlots (emptyRings { modAllPorts s PortUnit.softReset with
    engine := { (modAllPorts s PortUnit.softReset).engine with lastGranted := 2 } })

theorem softReset_eq_restarted (s : State) : softReset s = (cutAll s.resetting).restarted := rfl

theorem State.restarted_eq (s : State) : s.restarted = { s with
    ports := (modAllPorts s PortUnit.softReset).ports
    engine := { s.engine with lastGranted := 2 }
    snapshots := { s.snapshots with
      rings := Vector.replicate 3 [], slots := mapAll Slot.finish s.snapshots.slots } } := by
  have hports := modAllPorts_eq s PortUnit.softReset
  rw [State.restarted]
  generalize (modAllPorts s PortUnit.softReset).ports = ports at hports ⊢
  rw [hports]
  rfl

theorem State.restarted_port (s : State) (q : Port) :
    s.restarted.port q = (s.port q).softReset (s.portRow q) := by
  rw [State.restarted_eq]
  exact modAllPorts_port s PortUnit.softReset q

theorem State.restarted_context (s : State) (c : ContextNo) : s.restarted.context c = s.context c := by
  rw [State.restarted_eq]
  rfl

theorem State.restarted_station (s : State) (n : StationNo) : s.restarted.station n = s.station n := by
  rw [State.restarted_eq]
  rfl

/-! ### What SOFT_RESET leaves -/

/-- The station of a dialogue that SOFT_RESET has cut. -/
theorem softReset_station_of_context (hok : s.roster.Ok) (hd : s.context c = some d) :
    (softReset s).station d.station = (s.station d.station).ended d .cut := by
  have hrun : (s.station d.station).run = .engaged := hok.run_of_bound (State.roster_bound_of_context hd)
  rw [softReset_eq_restarted, State.restarted_station, ← State.resetting_station_of_engaged hrun]
  exact cutAll_dialogue (State.resetting_ok hok) s.resetting_waiting rfl hd

theorem softReset_station_of_unbound (hok : s.roster.Ok) (h : ∀ c d, s.context c = some d → d.station ≠ n) :
    (softReset s).station n = { s.station n with run := .idle, urgent := false } := by
  have hrun : (s.station n).run ≠ .engaged := fun hrun => by
    obtain ⟨c, hc⟩ := (hok.engaged_iff n).1 hrun
    obtain ⟨d, hd, hn⟩ := State.roster_bound.1 hc
    exact h c d hd hn
  have hflushed := State.resetting_station_of_not_engaged hok hrun
  rw [softReset_eq_restarted, State.restarted_station, (State.resetting_ended hok).station n, hflushed]
  rw [hflushed]
  nofun

theorem softReset_idle (hok : s.roster.Ok) (n : StationNo) :
    ((softReset s).station n).run = .idle ∧ ((softReset s).station n).urgent = false := by
  by_cases h : ∀ c d, s.context c = some d → d.station ≠ n
  · rw [softReset_station_of_unbound hok h]
    exact ⟨rfl, rfl⟩
  · push Not at h
    obtain ⟨c, d, hd, rfl⟩ := h
    rw [softReset_station_of_context hok hd]
    exact ⟨rfl, rfl⟩

theorem softReset_port (hok : s.roster.Ok) (q : Port) :
    (softReset s).port q = (s.port q).softReset (s.portRow q) := by
  have hended := State.resetting_ended hok
  rw [softReset_eq_restarted, State.restarted_port, State.portRow_eq hended.tables, hended.port q]
  rfl

theorem softReset_survey (hok : s.roster.Ok) : (softReset s).survey = { s.resetting.survey with
    stations := (cutAll s.resetting).survey.stations } := by
  rw [softReset_eq_restarted, State.restarted_eq]
  exact (State.resetting_ended hok).survey

theorem softReset_slot (s : State) (i : SlotNo) :
    (softReset s).slot i = ((cutAll s.resetting).slot i).finish := by
  rw [softReset_eq_restarted, State.restarted_eq]
  exact mapAll_get ..

theorem execSoftReset_of_slot {rest : List Byte} (hslot : s.management.slot = .serving p (0x07 :: rest)) :
    exec .softReset s = .next (checkSleep (respond (softReset s) p [[7, 0, 0, 0, 0, 0, 0, 0]])) := by
  have hanswer : serveSoftReset s p (0x07 :: rest) = plainAnswer (softReset s) .ok := rfl
  have hserve := serve_of_plainAnswer hslot (rfl : requestKind (0x07 :: rest) = .softReset) hanswer
  exact congrArg (fun t => Host.Outcome.next (checkSleep t)) hserve

/-- Settles O57: the flush, the cut and the restart, each by what it leaves. -/
theorem softResetKeepsTheHistory : Obligations.SoftResetKeepsTheHistory := by
  intro s p rest hs hslot
  have hok := hs.sound.ok
  have hended := State.resetting_ended hok
  obtain ⟨-, -, hsnapshots, hstreamer, -⟩ := cutAll_frame s.resetting
  have hsurvey := softReset_survey hok
  refine ⟨softReset s, ?_, ?_, ?_, by rw [hsurvey]; rfl, by rw [hsurvey]; rfl, by rw [hsurvey]; rfl,
    by rw [hsurvey]; rfl, by rw [hsurvey]; rfl, fun q => ?_, softReset_idle hok,
    fun n => softReset_station_of_unbound hok, fun c d hd => ?_, fun c => ?_, ?_, softReset_port hok, fun q => ?_,
    fun i => ?_, ?_, ?_, ?_, ?_, ?_, ?_⟩
  · exact execSoftReset_of_slot hslot
  · rw [softReset_eq_restarted, State.restarted_eq]
    exact hended.management
  · rw [softReset_eq_restarted, State.restarted_eq]
    exact hstreamer
  · rw [State.due, hsurvey, State.resetting_survey]
    exact Vector.getElem_replicate ..
  · exact (softReset_station_of_context hok hd).trans (StationState.ended_resume ..)
  · rw [softReset_eq_restarted, State.restarted_context]
    exact State.context_of_vacant (cutAll_vacant (State.resetting_ok hok) s.resetting_waiting) c
  · rw [softReset_eq_restarted, State.restarted_eq]
  · rw [softReset_eq_restarted, State.restarted_eq]
    exact Vector.getElem_replicate ..
  · rw [softReset_slot, State.slot, hsnapshots]
    rfl
  · rw [softReset_eq_restarted, State.restarted_eq, hsnapshots]
    rfl
  · simp
  · simp
  · rw [softReset_eq_restarted, State.restarted_eq]
    exact hended.tables
  · simp
  · simp

end Sys2Proof.Machine

/-! PROOFS. The staged layouts of FORMAT and GENERAL rows (O16): each field of a row is spelled by its bytes. -/

namespace Sys2Proof.Machine

/-! ### Codes -/

theorem modeOf_eq_some_iff {x : Nat} {m : SurveyMode} : modeOf x = some m ↔ x = modeCode m := by
  constructor
  · intro h
    unfold modeOf at h
    split at h <;> cases h <;> rfl
  · rintro rfl
    cases m <;> rfl

theorem clockSourceOf_eq_some_iff {x : Nat} {c : ClockSource} :
    clockSourceOf x = some c ↔ x = clockSourceCode c := by
  constructor
  · intro h
    unfold clockSourceOf at h
    split at h <;> cases h <;> rfl
  · rintro rfl
    cases c <;> rfl

theorem keySourceOf_eq_some_iff {x : Nat} {k : KeySource} : keySourceOf x = some k ↔ x = keySourceCode k := by
  constructor
  · intro h
    unfold keySourceOf at h
    split at h <;> cases h <;> rfl
  · rintro rfl
    cases k <;> rfl

theorem orderOf_eq_some_iff {x : Nat} {o : ByteOrder} : orderOf x = some o ↔ x = orderCode o := by
  constructor
  · intro h
    unfold orderOf at h
    split at h <;> cases h <;> rfl
  · rintro rfl
    cases o <;> rfl

/-- The divisors that have a code (R103). -/
def IsDivisor (v : Nat) : Prop := v = 1 ∨ v = 10 ∨ v = 100 ∨ v = 1000

theorem divisorOf_eq_some_iff {x v : Nat} : divisorOf x = some v ↔ IsDivisor v ∧ x = divisorCode v := by
  constructor
  · intro h
    unfold divisorOf at h
    split at h <;> cases h <;> simp [IsDivisor, divisorCode]
  · rintro ⟨rfl | rfl | rfl | rfl, rfl⟩ <;> rfl

theorem divisorCode_lt (v : Nat) : divisorCode v < 4 := by
  unfold divisorCode
  split_ifs <;> decide

theorem flag_eq_iff_one {n : Nat} {a : Bool} : n = flagBit 1 a ↔ n < 2 ∧ n.testBit 0 = a := by
  constructor
  · rintro rfl
    cases a <;> decide
  · rintro ⟨hn, rfl⟩
    interval_cases n <;> decide

/-! ### Position-and-width bytes, none markers and masks (R178) -/

/-- Position and width each fit their nibble. -/
def Field.Fits (f : Field) : Prop := f.pos < 16 ∧ f.width < 16

theorem fieldOf_eq_iff {b : Nat} {f : Field} (hf : f.Fits) : fieldOf b = f ↔ b = 16 * f.pos + f.width := by
  obtain ⟨pos, width⟩ := f
  obtain ⟨-, hwidth⟩ := hf
  simp only [fieldOf, Field.mk.injEq] at hwidth ⊢
  omega

theorem Field.Fits.code_lt {f : Field} (hf : f.Fits) : 16 * f.pos + f.width < 256 := by
  obtain ⟨hpos, hwidth⟩ := hf
  omega

theorem Field.fits_of_ok {f : Field} {lo hi : Nat} (hf : f.ok lo hi = true) : f.Fits := by
  simp only [Field.ok, Bool.and_eq_true, decide_eq_true_eq] at hf
  obtain ⟨⟨-, hpos⟩, hend⟩ := hf
  exact ⟨by omega, by omega⟩

/-- An absent count field keeps its position nibble, so that its byte still spells it. -/
theorem Field.fits_of_countOk {f : Field} (hf : f.countOk = true) : f.Fits := by
  simp only [Field.countOk, Bool.or_eq_true, Bool.and_eq_true, decide_eq_true_eq] at hf
  obtain ⟨hwidth, hpos⟩ | hok := hf
  · exact ⟨by omega, by omega⟩
  · exact Field.fits_of_ok hok

/-- A position that may be absent lies in the frame when it is there. -/
def PositionFits (p : Option Nat) : Prop := ∀ k, p = some k → k ≤ 7

theorem positionOf_eq_some_iff {x : Nat} {p : Option Nat} :
    positionOf x = some p ↔ PositionFits p ∧ x = p.getD 255 := by
  cases p with
  | none => simp [positionOf, PositionFits]
  | some k =>
    simp only [positionOf, PositionFits, Option.some.injEq, forall_eq', Option.getD_some]
    split_ifs <;> simp <;> omega

theorem PositionFits.code_lt {p : Option Nat} (hp : PositionFits p) : p.getD 255 < 256 := by
  cases p with
  | none => decide
  | some k => exact (hp k rfl).trans_lt (by decide)

theorem positionByte_eq (p : Option Nat) : positionByte p = byte (p.getD 255) := by
  cases p <;> rfl

theorem byte_toNat (b : Byte) : byte b.toNat = b := (toNat_eq_iff_eq_byte b.isLt).1 rfl |>.symm

theorem stagedByte_eq_toNat_iff {bs : List Byte} {i : Nat} {b : Byte} :
    stagedByte bs i = b.toNat ↔ bs.getD i 0 = b := BitVec.toNat_inj

theorem stagedField_lt (bs : List Byte) (i w : Nat) : stagedField bs i w < 256 ^ w :=
  (ofBigEndian_lt _).trans_le (Nat.pow_le_pow_right (by decide) (List.length_take_le ..))

theorem stagedField_eq_toNat_iff {bs : List Byte} {i : Nat} {m : BitVec 32} :
    stagedField bs i 4 = m.toNat ↔ BitVec.ofNat 32 (stagedField bs i 4) = m := by
  have hlt := stagedField_lt bs i 4
  rw [← BitVec.toNat_inj, BitVec.toNat_ofNat, Nat.mod_eq_of_lt (by omega)]

/-! ### FORMAT rows -/

/-- Each field of a FORMAT row is what its staged bytes spell (R103, Table 13.7). -/
structure Descriptor.ReadsFrom (d : Descriptor) (bs : List Byte) : Prop where
  kindPos : stagedByte bs 0 = d.kindPos.getD 255
  headerKind : stagedByte bs 1 = d.headerKind.toNat
  recordKind : stagedByte bs 2 = d.recordKind.toNat
  nField : stagedByte bs 3 = 16 * d.nField.pos + d.nField.width
  indexField : stagedByte bs 4 = 16 * d.indexField.pos + d.indexField.width
  codeField : stagedByte bs 5 = 16 * d.codeField.pos + d.codeField.width
  countField : stagedByte bs 6 = 16 * d.countField.pos + d.countField.width
  guardG : stagedField bs 7 2 = d.guardG
  statusPos : stagedByte bs 9 = d.statusPos
  statusMask : stagedByte bs 10 = d.statusMask.toNat
  activeValue : stagedByte bs 11 = d.activeValue.toNat
  pendingValue : stagedByte bs 12 = d.pendingValue.toNat
  storedValue : stagedByte bs 13 = d.storedValue.toNat
  severityPos : stagedByte bs 14 = d.severityPos.getD 255
  byteOrder : stagedByte bs 15 = orderCode d.byteOrder
  queryStart : stagedByte bs 16 = 16 * d.queryStart.pos + d.queryStart.width
  queryWindow : stagedByte bs 17 = d.queryWindow
  valueField : stagedByte bs 18 = 16 * d.valueField.pos + d.valueField.width
  divisor : stagedByte bs 19 = divisorCode d.divisor
  keyMask : stagedField bs 20 4 = d.keyMask.toNat
  keyOn : stagedField bs 24 4 = d.keyOn.toNat

/-- Each field of a descriptor fits the bytes that Table 13.7 gives it. -/
structure Descriptor.Fits (d : Descriptor) : Prop where
  kindPos : PositionFits d.kindPos
  nField : d.nField.Fits
  indexField : d.indexField.Fits
  codeField : d.codeField.Fits
  countField : d.countField.Fits
  guardG : d.guardG < 256 ^ 2
  statusPos : d.statusPos < 256
  severityPos : PositionFits d.severityPos
  queryStart : d.queryStart.Fits
  queryWindow : d.queryWindow < 256
  valueField : d.valueField.Fits
  divisor : IsDivisor d.divisor

theorem Descriptor.positions_fit_of_kindOk {d : Descriptor} (h : d.kindOk = true) :
    PositionFits d.kindPos ∧ PositionFits d.severityPos := by
  obtain ⟨hkind, hseverity⟩ := Bool.and_eq_true_iff.1 h
  constructor
  · intro k hk
    simp only [hk, Bool.and_eq_true, decide_eq_true_eq] at hkind
    exact hkind.1
  · intro k hk
    simpa only [hk, decide_eq_true_eq] using hseverity

/-- The checks of Table 6.2 leave no field that the layout could not hold. -/
theorem Descriptor.fits_of_ok {d : Descriptor} (h : d.ok = true) : d.Fits := by
  simp only [Descriptor.ok, Descriptor.guardOk, Descriptor.statusOk, Bool.and_eq_true, Bool.or_eq_true,
    decide_eq_true_eq, or_assoc] at h
  obtain ⟨⟨⟨⟨⟨⟨⟨⟨⟨⟨⟨⟨hkind, hn⟩, hindex⟩, hcode⟩, hcount⟩, ⟨-, hguard⟩⟩, hstatus⟩, hstart⟩, hwindow⟩, hvalue⟩,
    hdivisor⟩, -⟩, -⟩ := h
  obtain ⟨hkindPos, hseverityPos⟩ := Descriptor.positions_fit_of_kindOk hkind
  exact
    { kindPos := hkindPos
      nField := Field.fits_of_ok hn
      indexField := Field.fits_of_ok hindex
      codeField := Field.fits_of_ok hcode
      countField := Field.fits_of_countOk hcount
      guardG := by omega
      statusPos := by omega
      severityPos := hseverityPos
      queryStart := Field.fits_of_ok hstart
      queryWindow := by omega
      valueField := Field.fits_of_ok hvalue
      divisor := hdivisor }

theorem decodeFormat_eq_some_iff {bs : List Byte} {d : Descriptor} :
    decodeFormat bs = some d ↔ d.ok = true ∧ d.ReadsFrom bs := by
  constructor
  · intro h
    unfold decodeFormat at h
    split at h
    · next kindPos severityPos order divisor hkind hseverity horder hdivisor =>
      obtain ⟨hok, rfl⟩ := keepIf_eq_some_iff.1 h
      have hfits := Descriptor.fits_of_ok hok
      exact ⟨hok,
        { kindPos := (positionOf_eq_some_iff.1 hkind).2
          headerKind := rfl
          recordKind := rfl
          nField := (fieldOf_eq_iff hfits.nField).1 rfl
          indexField := (fieldOf_eq_iff hfits.indexField).1 rfl
          codeField := (fieldOf_eq_iff hfits.codeField).1 rfl
          countField := (fieldOf_eq_iff hfits.countField).1 rfl
          guardG := rfl
          statusPos := rfl
          statusMask := rfl
          activeValue := rfl
          pendingValue := rfl
          storedValue := rfl
          severityPos := (positionOf_eq_some_iff.1 hseverity).2
          byteOrder := orderOf_eq_some_iff.1 horder
          queryStart := (fieldOf_eq_iff hfits.queryStart).1 rfl
          queryWindow := rfl
          valueField := (fieldOf_eq_iff hfits.valueField).1 rfl
          divisor := (divisorOf_eq_some_iff.1 hdivisor).2
          keyMask := stagedField_eq_toNat_iff.2 rfl
          keyOn := stagedField_eq_toNat_iff.2 rfl }⟩
    · cases h
  · rintro ⟨hok, h⟩
    have hfits := Descriptor.fits_of_ok hok
    have hkind := positionOf_eq_some_iff.2 ⟨hfits.kindPos, h.kindPos⟩
    have hseverity := positionOf_eq_some_iff.2 ⟨hfits.severityPos, h.severityPos⟩
    have horder := orderOf_eq_some_iff.2 h.byteOrder
    have hdivisor := divisorOf_eq_some_iff.2 ⟨hfits.divisor, h.divisor⟩
    simp only [decodeFormat, hkind, hseverity, horder, hdivisor, stagedByte_eq_toNat_iff.1 h.headerKind,
      stagedByte_eq_toNat_iff.1 h.recordKind, (fieldOf_eq_iff hfits.nField).2 h.nField,
      (fieldOf_eq_iff hfits.indexField).2 h.indexField, (fieldOf_eq_iff hfits.codeField).2 h.codeField,
      (fieldOf_eq_iff hfits.countField).2 h.countField, h.guardG, h.statusPos,
      stagedByte_eq_toNat_iff.1 h.statusMask, stagedByte_eq_toNat_iff.1 h.activeValue,
      stagedByte_eq_toNat_iff.1 h.pendingValue, stagedByte_eq_toNat_iff.1 h.storedValue,
      (fieldOf_eq_iff hfits.queryStart).2 h.queryStart, h.queryWindow,
      (fieldOf_eq_iff hfits.valueField).2 h.valueField, stagedField_eq_toNat_iff.1 h.keyMask,
      stagedField_eq_toNat_iff.1 h.keyOn]
    exact keepIf_eq_some_iff.2 ⟨hok, rfl⟩

theorem encodeFormat_eq (d : Descriptor) : encodeFormat d =
    byte (d.kindPos.getD 255) :: byte d.headerKind.toNat :: byte d.recordKind.toNat ::
      byte (16 * d.nField.pos + d.nField.width) :: byte (16 * d.indexField.pos + d.indexField.width) ::
      byte (16 * d.codeField.pos + d.codeField.width) :: byte (16 * d.countField.pos + d.countField.width) ::
      (bigEndian 2 d.guardG ++ byte d.statusPos :: byte d.statusMask.toNat :: byte d.activeValue.toNat ::
        byte d.pendingValue.toNat :: byte d.storedValue.toNat :: byte (d.severityPos.getD 255) ::
        byte (orderCode d.byteOrder) :: byte (16 * d.queryStart.pos + d.queryStart.width) ::
        byte d.queryWindow :: byte (16 * d.valueField.pos + d.valueField.width) ::
        byte (divisorCode d.divisor) :: (bigEndian 4 d.keyMask.toNat ++ (bigEndian 4 d.keyOn.toNat ++ []))) := by
  simp only [encodeFormat, fieldByte, positionByte_eq, byte_toNat, List.append_assoc, List.cons_append,
    List.nil_append, List.append_nil]

/-- The bytes of a row in order spell its fields, one block after the other. -/
theorem Descriptor.readsFrom_iff {bs : List Byte} {d : Descriptor} (hbs : 28 ≤ bs.length) (hok : d.ok = true) :
    d.ReadsFrom bs ↔ bs.take 28 = encodeFormat d := by
  have hfits := Descriptor.fits_of_ok hok
  have hguard := hfits.guardG
  have hstatus := hfits.statusPos
  have hwindow := hfits.queryWindow
  have hkind := hfits.kindPos.code_lt
  have hseverity := hfits.severityPos.code_lt
  have hn := hfits.nField.code_lt
  have hindex := hfits.indexField.code_lt
  have hcode := hfits.codeField.code_lt
  have hcount := hfits.countField.code_lt
  have hstart := hfits.queryStart.code_lt
  have hvalue := hfits.valueField.code_lt
  have horder : orderCode d.byteOrder < 2 := by cases d.byteOrder <;> decide
  have hdivisor := divisorCode_lt d.divisor
  rw [encodeFormat_eq]
  change _ ↔ (bs.drop 0).take 28 = _
  simp (disch := omega) only [take_drop_eq_byte_cons_iff, take_drop_eq_bigEndian_append_iff, Nat.reduceAdd,
    Nat.reduceSub, List.take_zero, and_true]
  constructor
  · rintro ⟨h0, h1, h2, h3, h4, h5, h6, h7, h9, h10, h11, h12, h13, h14, h15, h16, h17, h18, h19, h20, h24⟩
    exact ⟨h0, h1, h2, h3, h4, h5, h6, h7, h9, h10, h11, h12, h13, h14, h15, h16, h17, h18, h19, h20, h24⟩
  · rintro ⟨h0, h1, h2, h3, h4, h5, h6, h7, h9, h10, h11, h12, h13, h14, h15, h16, h17, h18, h19, h20, h24⟩
    exact ⟨h0, h1, h2, h3, h4, h5, h6, h7, h9, h10, h11, h12, h13, h14, h15, h16, h17, h18, h19, h20, h24⟩

/-! ### The GENERAL row -/

/-- Each field of a GENERAL row is what its staged bytes spell (R158, Table 13.7). -/
structure GeneralRow.ReadsFrom (r : GeneralRow) (bs : List Byte) : Prop where
  responseId : stagedField bs 0 4 = idWord r.responseId
  surveyMode : stagedByte bs 4 = modeCode r.surveyMode
  roundLength : stagedField bs 5 2 = r.roundLength
  backOff : stagedByte bs 7 = r.backOff
  keyOffGrace : stagedByte bs 8 = r.keyOffGrace
  minRun : stagedByte bs 9 = r.minRun
  maxRun : stagedByte bs 10 = r.maxRun
  clockSource : stagedByte bs 11 = clockSourceCode r.clockSource
  keySource : stagedByte bs 12 = keySourceCode r.keySource
  keyLossTime : stagedByte bs 13 = r.keyLossTime
  noticeEnable : stagedByte bs 14 = flagBit 1 r.noticeEnable
  noticePort : stagedByte bs 15 = r.noticePort.val
  noticeInterval : 100 * stagedByte bs 16 = r.noticeInterval
  sleepDelay : stagedField bs 17 2 = r.sleepDelay

theorem decodeGeneral_eq_some_iff {bs : List Byte} {r : GeneralRow} :
    decodeGeneral bs = some r ↔ r.ok = true ∧ r.ReadsFrom bs := by
  constructor
  · intro h
    unfold decodeGeneral at h
    split at h
    · next id mode clockSource keySource noticePort hid hmode hclock hkey hport =>
      obtain ⟨hok, rfl⟩ := keepIf_eq_some_iff.1 h
      obtain ⟨hflag, hrow⟩ := Bool.and_eq_true_iff.1 hok
      exact ⟨hrow,
        { responseId := readId_eq_some_iff.1 hid
          surveyMode := modeOf_eq_some_iff.1 hmode
          roundLength := rfl
          backOff := rfl
          keyOffGrace := rfl
          minRun := rfl
          maxRun := rfl
          clockSource := clockSourceOf_eq_some_iff.1 hclock
          keySource := keySourceOf_eq_some_iff.1 hkey
          keyLossTime := rfl
          noticeEnable := flag_eq_iff_one.2 ⟨of_decide_eq_true hflag, rfl⟩
          noticePort := finOf_eq_some_iff.1 hport
          noticeInterval := rfl
          sleepDelay := rfl }⟩
    · cases h
  · rintro ⟨hok, h⟩
    obtain ⟨hlow, henable⟩ := flag_eq_iff_one.1 h.noticeEnable
    have hid := readId_eq_some_iff.2 h.responseId
    have hmode := modeOf_eq_some_iff.2 h.surveyMode
    have hclock := clockSourceOf_eq_some_iff.2 h.clockSource
    have hkey := keySourceOf_eq_some_iff.2 h.keySource
    have hport := finOf_eq_some_iff.2 h.noticePort
    simp only [decodeGeneral, hid, hmode, hclock, hkey, hport, henable, h.roundLength, h.backOff, h.keyOffGrace,
      h.minRun, h.maxRun, h.keyLossTime, h.noticeInterval, h.sleepDelay]
    exact keepIf_eq_some_iff.2 ⟨by simp [hlow, hok], rfl⟩

theorem encodeGeneral_eq (r : GeneralRow) : encodeGeneral r =
    bigEndian 4 (idWord r.responseId) ++ byte (modeCode r.surveyMode) :: (bigEndian 2 r.roundLength ++
      byte r.backOff :: byte r.keyOffGrace :: byte r.minRun :: byte r.maxRun ::
      byte (clockSourceCode r.clockSource) :: byte (keySourceCode r.keySource) :: byte r.keyLossTime ::
      byte (flagBit 1 r.noticeEnable) :: byte r.noticePort.val :: byte (r.noticeInterval / 100) ::
      (bigEndian 2 r.sleepDelay ++ [])) := by
  simp only [encodeGeneral, List.append_assoc, List.cons_append, List.nil_append, List.append_nil]

/-- The bytes of the row in order spell its fields, one block after the other. -/
theorem GeneralRow.readsFrom_iff {bs : List Byte} {r : GeneralRow} (hbs : 19 ≤ bs.length) (hok : r.ok = true) :
    r.ReadsFrom bs ↔ bs.take 19 = encodeGeneral r := by
  simp only [GeneralRow.ok, inRange, Bool.and_eq_true, decide_eq_true_eq] at hok
  have hid := idWord_lt r.responseId
  have hmode : modeCode r.surveyMode < 2 := by cases r.surveyMode <;> decide
  have hclock : clockSourceCode r.clockSource < 2 := by cases r.clockSource <;> decide
  have hkey : keySourceCode r.keySource < 2 := by cases r.keySource <;> decide
  have hnotice := (flag_eq_iff_one (a := r.noticeEnable)).1 rfl |>.1
  have hport := r.noticePort.isLt
  have hround : r.roundLength < 256 ^ 2 := by omega
  have hsleep : r.sleepDelay < 256 ^ 2 := by omega
  rw [encodeGeneral_eq]
  change _ ↔ (bs.drop 0).take 19 = _
  simp (disch := omega) only [take_drop_eq_byte_cons_iff, take_drop_eq_bigEndian_append_iff, Nat.reduceAdd,
    Nat.reduceSub, List.take_zero, and_true]
  constructor
  · rintro ⟨h0, h4, h5, h7, h8, h9, h10, h11, h12, h13, h14, h15, h16, h17⟩
    exact ⟨h0, h4, h5, h7, h8, h9, h10, h11, h12, h13, h14, h15, by omega, h17⟩
  · rintro ⟨h0, h4, h5, h7, h8, h9, h10, h11, h12, h13, h14, h15, h16, h17⟩
    exact ⟨h0, h4, h5, h7, h8, h9, h10, h11, h12, h13, h14, h15, by omega, h17⟩

/-- Settles O16: a row decodes exactly when it passes its checks and its bytes spell it, block by block; the checks
leave no field that its bytes could not hold. -/
theorem formatAndGeneralRowsRoundTrip : Obligations.FormatAndGeneralRowsRoundTrip := by
  refine ⟨fun bs d hbs => ?_, fun bs r hbs => ?_⟩
  · rw [decodeFormat_eq_some_iff]
    exact and_congr_right fun hok => Descriptor.readsFrom_iff hbs hok
  · rw [decodeGeneral_eq_some_iff]
    exact and_congr_right fun hok => GeneralRow.readsFrom_iff hbs hok

end Sys2Proof.Machine

/-! PROOFS. What every operation does to a port apart from its harvest output: O7. -/

namespace Sys2Proof.Machine

variable {s t : State} {p : Port}

/-! ### Berths -/

/-- A port's row and the port itself, but for its harvest output: what the dialogues cannot touch. -/
def State.berth (s : State) (p : Port) : PortRow × PortUnit := (s.portRow p, { s.port p with harvest := [] })

theorem State.berth_eq (hrow : ∀ p, t.portRow p = s.portRow p)
    (hport : ∀ p, { t.port p with harvest := [] } = { s.port p with harvest := [] }) : t.berth = s.berth :=
  funext fun p => congrArg₂ Prod.mk (hrow p) (hport p)

theorem State.berth_of_same (htables : t.tables = s.tables) (hports : t.ports = s.ports) : t.berth = s.berth :=
  State.berth_eq (State.portRow_eq htables) fun p => by rw [State.port_eq hports]

/-- A change of the harvest output alone leaves every berth. -/
theorem modPort_berth {f : PortUnit → PortUnit} (h : ∀ x, { f x with harvest := [] } = { x with harvest := [] }) :
    (s.modPort p f).berth = s.berth := by
  refine State.berth_eq (fun _ => rfl) fun q => ?_
  rw [State.modPort_port]
  split
  · exact h _
  · rfl

theorem foldl_berth {β : Type} {f : State → β → State} (h : ∀ (s : State) b, (f s b).berth = s.berth) (l : List β)
    (s : State) : (l.foldl f s).berth = s.berth :=
  foldl_keeps State.berth f h l s

theorem State.YieldOnly.berth (h : s.YieldOnly t) : t.berth = s.berth := by
  obtain ⟨-, htables, -, -, -, hports, -⟩ := h.fields
  exact State.berth_of_same htables hports

theorem lookCheck_berth (s : State) : (lookCheck s).berth = s.berth := (lookCheck_yieldOnly s).berth

/-! ### Rows in force and closes -/

theorem applyStationRow_berth (s : State) (n : StationNo) (row : StationRow) :
    (applyStationRow s n row).berth = s.berth :=
  State.berth_eq (fun q => by rw [State.portRow, applyStationRow_tables]; rfl)
    fun q => by rw [State.port_eq (by simp : (applyStationRow s n row).ports = s.ports)]

theorem applyPending_berth (s : State) (pc : PendingCommit) : (applyPending s pc).berth = s.berth := by
  cases pc with
  | station n row => exact applyStationRow_berth s n row
  | format n row => rfl

theorem releasePending_berth (s : State) : (releasePending s).berth = s.berth := by
  unfold releasePending
  (repeat' split)
  · rfl
  · rfl
  · exact applyPending_berth _ _

theorem applyOrDefer_berth (s : State) (pc : Option PendingCommit) : (applyOrDefer s pc).state.berth = s.berth := by
  unfold applyOrDefer
  (repeat' split)
  · rfl
  · rfl
  · exact applyPending_berth s _

theorem recordOutcome_berth (s : State) (d : Dialogue) (o : Closing) : (recordOutcome s d o).berth = s.berth := by
  apply State.berth_of_same <;> simp

theorem withdrawQuery_berth (s : State) (c : ContextNo) (d : Dialogue) : (withdrawQuery s c d).berth = s.berth :=
  modPort_berth fun _ => rfl

theorem closeDialogue_berth (s : State) (c : ContextNo) (o : Closing) : (closeDialogue s c o).berth = s.berth := by
  unfold closeDialogue
  split
  · rfl
  · next d _ =>
    have hmarked : (if o = .complete then markGone (withdrawQuery s c d) d.station
        else withdrawQuery s c d).berth = s.berth := by
      split
      · exact withdrawQuery_berth s c d
      · exact withdrawQuery_berth s c d
    exact (lookCheck_berth _).trans ((releasePending_berth _).trans ((recordOutcome_berth _ d o).trans hmarked))

theorem cutAll_berth (s : State) : (cutAll s).berth = s.berth :=
  foldl_berth (fun t c => closeDialogue_berth t c .cut) _ s

theorem losePort_berth (s : State) (p : Port) : (losePort s p).berth = s.berth := by
  refine foldl_berth (fun t c => ?_) _ s
  split
  · exact closeDialogue_berth t c .portLost
  · rfl

/-! ### Dialogues -/

theorem sendQuery_berth (s : State) (c : ContextNo) : (sendQuery s c).berth = s.berth := by
  unfold sendQuery
  split
  · rfl
  · exact modPort_berth fun _ => rfl

theorem takeMerge_berth (s : State) (m : Merge) : (takeMerge s m).berth = s.berth := by
  apply State.berth_of_same <;> simp

theorem retryPoint_berth (s : State) (c : ContextNo) : (retryPoint s c).berth = s.berth := by
  unfold retryPoint
  (repeat' split)
  · rfl
  · exact closeDialogue_berth s c _
  · exact closeDialogue_berth s c _
  · exact sendQuery_berth _ c

theorem acceptHeader_berth (s : State) (c : ContextNo) (d : Dialogue) (k : Nat) :
    (acceptHeader s c d k).berth = s.berth := by
  unfold acceptHeader
  dsimp only
  split
  · exact closeDialogue_berth _ c _
  · rfl

theorem takeHeader_berth (s : State) (c : ContextNo) (d : Dialogue) (k : Nat) :
    (takeHeader s c d k).berth = s.berth := by
  unfold takeHeader restartPass
  (repeat' split)
  · exact closeDialogue_berth s c _
  · exact acceptHeader_berth s c d k
  · exact acceptHeader_berth _ c d k
  · exact acceptHeader_berth s c d k
  · exact sendQuery_berth _ c

theorem windowBoundary_berth (s : State) (c : ContextNo) (d : Dialogue) : (windowBoundary s c d).berth = s.berth := by
  unfold windowBoundary
  dsimp only
  split
  · exact closeDialogue_berth _ c _
  · exact sendQuery_berth _ c

theorem afterAdvance_berth (s : State) (c : ContextNo) : (afterAdvance s c).berth = s.berth := by
  unfold afterAdvance
  (repeat' split)
  · rfl
  · exact closeDialogue_berth s c _
  · exact windowBoundary_berth s c _
  · rfl

theorem takeRecord_berth (s : State) (c : ContextNo) (d : Dialogue) (k : Nat) (r : FaultReport) :
    (takeRecord s c d k r).berth = s.berth := by
  have hrecorded : (s.recorded c d r).berth = s.berth := takeMerge_berth s _
  unfold takeRecord
  (repeat' split)
  · rfl
  · rw [acceptRecord_eq, afterAdvance_berth, (preemptionCheck_yieldOnly _).berth, (maxRunCheck_yieldOnly _ c).berth]
    exact hrecorded
  · exact retryPoint_berth s c

theorem bindContext_berth (s : State) (g : Grant) : (bindContext s g).berth = s.berth :=
  sendQuery_berth _ g.context

/-! ### Rounds and key events -/

theorem startRound_berth (s : State) : (startRound s).berth = s.berth := by
  apply State.berth_of_same <;> simp

theorem endRound_berth (s : State) : (endRound s).berth = s.berth := by
  apply State.berth_of_same <;> simp

theorem raiseRound_berth (s : State) : (raiseRound s).berth = s.berth := by
  apply State.berth_of_same <;> simp

theorem keyOnEvent_berth (s : State) : (keyOnEvent s).berth = s.berth := by
  apply State.berth_of_same <;> simp

theorem keyOnAtStart_berth (s : State) : (keyOnAtStart s).berth = s.berth := by
  apply State.berth_of_same <;> simp

theorem startGrace_berth (s : State) : (startGrace s).berth = s.berth := by
  unfold startGrace
  split
  · exact cutAll_berth _
  · rfl

theorem keyOffEvent_berth (s : State) : (keyOffEvent s).berth = s.berth := by
  have hkeyed : ∀ s : State, (surveyKeyOff s).berth = s.berth := fun s => by
    rw [surveyKeyOff_eq, startGrace_berth]
    apply State.berth_of_same <;> simp [State.keyedOff]
  exact hkeyed (s.modClock _)

theorem keyValue_berth (s : State) (raw : Nat) (mask on : BitVec 32) : (keyValue s raw mask on).berth = s.berth := by
  have hread : ∀ k, (applyReading s k).berth = s.berth := fun k => by
    unfold applyReading
    split
    · exact keyOnEvent_berth s
    · exact keyOffEvent_berth s
    · rfl
    · rfl
  unfold keyValue
  split
  · rfl
  · exact hread _

theorem applyGeneral_berth (s : State) (row : GeneralRow) : (applyGeneral s row).berth = s.berth := by
  rw [applyGeneral_eq]
  dsimp only
  split
  · exact keyOnEvent_berth _
  · rfl

theorem stopSurvey_berth (s : State) : (stopSurvey s).berth = s.berth := cutAll_berth _

theorem startSurvey_berth (s : State) (mode : SurveyMode) : (startSurvey s mode).berth = s.berth := by
  unfold startSurvey
  dsimp only
  split
  · exact startRound_berth _
  · rfl

end Sys2Proof.Machine

/-! PROOFS. What makes a port firm, and the changes of a port that keep it so: O7. -/

namespace Sys2Proof.Machine

variable {s t : State} {p : Port} {row : PortRow} {x : PortUnit}

/-! ### Firm ports -/

theorem PortState.ne_of_serves {st st' : PortState} (h : st.serves = true) (h' : st'.serves = false) : st ≠ st' := by
  rintro rfl
  exact absurd h (by simp [h'])

/-- A port in order under its row, but for its harvest output, which the dialogues answer for (R81, R99). -/
structure PortUnit.Firm (row : PortRow) (x : PortUnit) : Prop where
  tec_le : x.txErrors ≤ 263
  rec_le : x.rxErrors ≤ 255
  drops_le : x.drops ≤ 65535
  strays_le : x.strays ≤ 65535
  malformed_le : x.malformed ≤ 65535
  busOffs_le : x.busOffs ≤ 65535
  forward_le : x.forward.length ≤ 24
  output_le : x.output.length ≤ 8
  emptied : x.state.serves = false → x.tx = none ∧ x.forward = []
  silent : x.state = .busOff → x.output = []
  active : x.state = .active → x.txErrors < 128 ∧ x.rxErrors < 128
  passive : x.state = .passive → 128 ≤ x.txErrors ∨ 128 ≤ x.rxErrors
  tec_lt : x.state ≠ .busOff → x.txErrors < 256
  off_iff : x.state = .off ↔ row.enable = false

/-- Every port is firm. -/
def State.Firm (s : State) : Prop := ∀ p, (s.port p).Firm (s.portRow p)

theorem PortUnit.Firm.of_ok (h : x.Ok) (hoff : x.state = .off ↔ row.enable = false) : x.Firm row := by
  obtain ⟨htec, hrec, hdrops, hstrays, hmalformed, hbusOffs, hforward, houtput, hempty, hsilent, hactive, hpassive,
    hlt⟩ := h
  refine ⟨htec, hrec, hdrops, hstrays, hmalformed, hbusOffs, hforward, houtput, fun hserves => ?_, hsilent, hactive,
    hpassive, hlt, hoff⟩
  obtain ⟨htx, hforward, -⟩ := hempty hserves
  exact ⟨htx, hforward⟩

/-- A firm port is in order when its harvest output is empty outside ACTIVE and PASSIVE. -/
theorem PortUnit.Firm.ok (h : x.Firm row) (hharvest : x.state.serves = false → x.harvest = []) : x.Ok :=
  ⟨h.tec_le, h.rec_le, h.drops_le, h.strays_le, h.malformed_le, h.busOffs_le, h.forward_le, h.output_le,
    fun hserves => ⟨(h.emptied hserves).1, (h.emptied hserves).2, hharvest hserves⟩, h.silent, h.active, h.passive,
    h.tec_lt⟩

theorem PortUnit.Firm.tec_lt_of_serves (h : x.Firm row) (hserves : x.state.serves = true) : x.txErrors < 256 :=
  h.tec_lt (PortState.ne_of_serves hserves rfl)

/-- A query stands only in the harvest output of a port that serves its dialogue (R81, R99), so ports that are firm
are in order. -/
theorem State.Firm.portsOk (h : s.Firm) (hharvest : HarvestOk s) (hserves : PortsServeDialogues s) : PortsOk s := by
  refine fun p => ⟨(h p).ok fun hidle => List.eq_nil_iff_forall_not_mem.2 fun q hq => ?_, (h p).off_iff⟩
  obtain ⟨-, hlive, -⟩ := hharvest.1 p
  obtain ⟨d, hd, -, -, rfl⟩ := hlive q hq
  exact absurd (hserves _ d hd) (by simp [hidle])

theorem State.Inv.firm (hs : s.Inv) : s.Firm := fun p => .of_ok (hs.ports p).1 (hs.ports p).2

theorem PortUnit.firm_of_same {y : PortUnit} (h : x.Firm row)
    (hsame : { y with harvest := [] } = { x with harvest := [] }) :
    y.Firm row := by
  have hbare : { y with harvest := [] }.Firm row := hsame ▸ { h with }
  exact { hbare with }

theorem State.Firm.of_berth (h : s.Firm) (hsame : t.berth = s.berth) : t.Firm := fun p => by
  obtain ⟨hrow, hport⟩ := Prod.mk.inj (congrFun hsame p)
  exact hrow ▸ PortUnit.firm_of_same (h p) hport

/-- A change of one port that keeps it firm. -/
theorem State.Firm.modPort (h : s.Firm) {f : PortUnit → PortUnit} (hf : (f (s.port p)).Firm (s.portRow p)) :
    (s.modPort p f).Firm := fun q => by
  rw [State.modPort_port]
  split
  · next hq => exact hq ▸ hf
  · exact h q

/-! ### Counts and queues -/

theorem countStray_firm (h : s.Firm) (p : Port) : (countStray s p).Firm :=
  h.modPort { h p with strays_le := sat16_le _ _ }

theorem countMalformed_firm (h : s.Firm) (p : Port) : (countMalformed s p).Firm :=
  h.modPort { h p with malformed_le := sat16_le _ _ }

/-- Fault confinement settles a port that serves (R120). -/
theorem changeErrors_firm (h : s.Firm) (hserves : (s.port p).state.serves = true) {f : PortUnit → PortUnit}
    {tx : Option TxFrame} {te re : Nat} (hte : te < 256) (hre : re ≤ 255)
    (hf : f (s.port p) = { s.port p with tx := tx, txErrors := te, rxErrors := re }) : (changeErrors s p f).Firm := by
  refine State.Firm.of_berth (h.modPort ?_) (changeErrors_yieldOnly s p f).berth
  have hstays : (f (s.port p)).state = (s.port p).state := by rw [hf]
  have hrow : ¬ (s.portRow p).enable = false := fun hrow =>
    PortState.ne_of_serves hserves rfl ((h p).off_iff.2 hrow)
  rw [PortUnit.confined_of_serves (hstays ▸ hserves), hf]
  dsimp only
  split
  · next hlow =>
    exact { h p with
      tec_le := hte.le.trans (by decide), rec_le := hre, emptied := nofun, silent := nofun, active := fun _ => hlow
      passive := nofun, tec_lt := fun _ => hte, off_iff := ⟨nofun, fun hoff => absurd hoff hrow⟩ }
  · next hhigh =>
    have hover : 128 ≤ te ∨ 128 ≤ re := by omega
    exact { h p with
      tec_le := hte.le.trans (by decide), rec_le := hre, emptied := nofun, silent := nofun, active := nofun
      passive := fun _ => hover, tec_lt := fun _ => hte, off_iff := ⟨nofun, fun hoff => absurd hoff hrow⟩ }

theorem PortUnit.Firm.offerForward (h : x.Firm row) (f : Frame) : (x.offerForward f).Firm row := by
  unfold PortUnit.offerForward
  split
  · next hserves =>
    split
    · next hroom =>
      have hlength : (x.forward ++ [f]).length ≤ 24 := by simpa [Config.forwardCapacity] using hroom
      exact { h with forward_le := hlength, emptied := fun hidle => absurd hserves (by simp [hidle]) }
    · exact { h with drops_le := sat16_le _ _ }
  · exact h

theorem forwardFrame_firm (h : s.Firm) (p : Port) (f : Frame) (route : PortSet) : (forwardFrame s p f route).Firm := by
  unfold forwardFrame
  induction allPorts generalizing s with
  | nil => exact h
  | cons q l ih =>
    refine ih ?_
    dsimp only
    split
    · exact h.modPort ((h q).offerForward f)
    · exact h

/-- As many frames as there are free places may join a management output queue (R136). -/
theorem queueOutput_firm (h : s.Firm) {fs : List Frame} (hfree : fs.length ≤ s.freePlaces p) :
    (queueOutput s p fs).Firm := by
  have hp := h p
  have houtput := hp.output_le
  refine h.modPort { hp with output_le := ?_, silent := fun hoff => ?_ }
  · rw [List.length_append]
    have hplaces : s.freePlaces p ≤ 8 - (s.port p).output.length := by
      unfold State.freePlaces PortUnit.freePlaces
      split
      · exact Nat.zero_le _
      · exact Nat.zero_le _
      all_goals exact le_rfl
    omega
  · have hoff' : (s.port p).state = .busOff := hoff
    have hnone : fs = [] := by simpa [State.freePlaces, PortUnit.freePlaces, hoff'] using hfree
    rw [hnone, List.append_nil]
    exact hp.silent hoff'

theorem queueOutput_one_firm (h : s.Firm) (hfree : 0 < s.freePlaces p) (f : Frame) : (queueOutput s p [f]).Firm :=
  queueOutput_firm h hfree

theorem respond_firm (h : s.Firm) (p : Port) (frames : List (List Byte)) : (respond s p frames).Firm :=
  queueOutput_firm h (by simp)

/-! ### Ports that leave the bus or come back -/

/-- The state of a port that starts afresh: JOINING, or OFF under a disabled row (R117). -/
theorem startState_eq_off_iff {b : Bool} : (if b then PortState.joining else .off) = .off ↔ b = false := by
  cases b <;> decide

/-- A port that is emptied and enters a state in which it neither serves nor is BUS_OFF. -/
theorem PortUnit.Firm.flushed {row' : PortRow} (h : x.Firm row') {st : PortState} {te re : Nat}
    (hst : st = .joining ∨ st = .dormant ∨ st = .off) (hoff : st = .off ↔ row.enable = false) (hte : te < 256)
    (hre : re ≤ 255) : PortUnit.Firm row { x.flushed with state := st, txErrors := te, rxErrors := re } := by
  refine { h with
    tec_le := hte.le.trans (by decide), rec_le := hre, forward_le := Nat.zero_le _, output_le := Nat.zero_le _
    emptied := fun _ => ⟨rfl, rfl⟩, silent := fun _ => rfl, active := ?_, passive := ?_, tec_lt := fun _ => hte
    off_iff := hoff } <;> rcases hst with rfl | rfl | rfl <;> nofun

/-- A port that starts afresh under its row, with its error counts cleared or kept (R125, R164, R175). -/
theorem PortUnit.Firm.restarted {row' : PortRow} (h : x.Firm row') {te re : Nat} (hte : te < 256) (hre : re ≤ 255) :
    PortUnit.Firm row { x.flushed.arbiterReset with
      state := if row.enable then .joining else .off, txErrors := te, rxErrors := re } := by
  have hst : (if row.enable then PortState.joining else .off) = .joining ∨
      (if row.enable then PortState.joining else .off) = .dormant ∨
      (if row.enable then PortState.joining else .off) = .off := by
    split
    · exact .inl rfl
    · exact .inr (.inr rfl)
  exact { h.flushed hst startState_eq_off_iff hte hre with }

/-- An entry into BUS_OFF (R122). -/
theorem PortUnit.Firm.enterBusOff (h : x.Firm row) {te : Nat} (htec : te ≤ 263) (hon : x.state ≠ .off) :
    PortUnit.Firm row (PortUnit.enterBusOff { x with txErrors := te }) :=
  { h with
    tec_le := htec, drops_le := sat16_le _ _, busOffs_le := sat16_le _ _, forward_le := Nat.zero_le _
    output_le := Nat.zero_le _, emptied := fun _ => ⟨rfl, rfl⟩, silent := fun _ => rfl, active := nofun
    passive := nofun, tec_lt := fun hne => absurd rfl hne
    off_iff := ⟨nofun, fun hrow => absurd (h.off_iff.2 hrow) hon⟩ }

/-- A BUS_OFF port rejoins (R123, R124). -/
theorem PortUnit.Firm.rejoin (h : x.Firm row) (hoff : x.state = .busOff) : x.rejoin.Firm row :=
  { h with
    tec_le := Nat.zero_le _, rec_le := Nat.zero_le _, emptied := fun _ => h.emptied (by rw [hoff]; rfl), silent := nofun
    active := nofun, passive := nofun, tec_lt := fun _ => Nat.zero_lt_succ 255
    off_iff := ⟨nofun, fun hrow => absurd (h.off_iff.2 hrow) (by rw [hoff]; nofun)⟩ }

/-- A bus-idle event takes a port to LISTEN, or to ACTIVE or PASSIVE by its error counts (R118). -/
theorem PortUnit.busIdleState_spec (x : PortUnit) (row : PortRow) :
    (x.busIdleState row = .active → x.txErrors < 128 ∧ x.rxErrors < 128) ∧
    (x.busIdleState row = .passive → 128 ≤ x.txErrors ∨ 128 ≤ x.rxErrors) ∧
    x.busIdleState row ≠ .busOff ∧ x.busIdleState row ≠ .off := by
  unfold PortUnit.busIdleState
  (repeat' split)
  · exact ⟨nofun, nofun, nofun, nofun⟩
  · next hlow => exact ⟨fun _ => hlow, nofun, nofun, nofun⟩
  · exact ⟨nofun, fun _ => by omega, nofun, nofun⟩

/-- A port that a bus-idle event finds in JOINING (R118). -/
theorem PortUnit.Firm.busIdle (h : x.Firm row) (hjoining : x.state = .joining) :
    PortUnit.Firm row { x with state := x.busIdleState row } := by
  have hrow : ¬ row.enable = false := fun hrow => absurd (h.off_iff.2 hrow) (by rw [hjoining]; nofun)
  obtain ⟨hactive, hpassive, hbus, hoff⟩ := x.busIdleState_spec row
  exact { h with
    emptied := fun _ => h.emptied (by rw [hjoining]; rfl), silent := fun hst => absurd hst hbus, active := hactive
    passive := hpassive, tec_lt := fun _ => h.tec_lt (by rw [hjoining]; nofun)
    off_iff := ⟨fun hst => absurd hst hoff, fun hst => absurd hst hrow⟩ }

/-- The entry into SLEEP (R173). -/
theorem PortUnit.Firm.sleep (h : x.Firm row) : (x.sleep row).Firm row := by
  unfold PortUnit.sleep
  dsimp only
  split
  · next henable =>
    have hoff : PortState.dormant = .off ↔ row.enable = false := ⟨nofun, fun hrow => absurd henable (by simp [hrow])⟩
    split
    · exact h.flushed (.inr (.inl rfl)) hoff (by decide) (by decide)
    · next hne => exact h.flushed (.inr (.inl rfl)) hoff (h.tec_lt hne) h.rec_le
  · next henable =>
    have hoff : x.state = .off := h.off_iff.2 (by simpa using henable)
    exact h.flushed (.inr (.inr hoff)) h.off_iff (h.tec_lt (by rw [hoff]; nofun)) h.rec_le

/-- A port as a power-on starts it (Table 7.5). -/
theorem PortUnit.start_firm (row : PortRow) : (PortUnit.start (if row.enable then .joining else .off)).Firm row := by
  have hzero : ∀ n, (0 : Nat) ≤ n := Nat.zero_le
  refine ⟨hzero _, hzero _, hzero _, hzero _, hzero _, hzero _, hzero _, hzero _, fun _ => ⟨rfl, rfl⟩, fun _ => rfl, ?_,
    ?_, fun _ => Nat.zero_lt_succ 255, startState_eq_off_iff⟩ <;> cases row.enable <;> nofun

/-- The head of a source moves into the transmitter (R139). -/
theorem PortUnit.Firm.place (h : x.Firm row) (hserves : x.state.serves = true) (row' : PortRow) (src : TxSource) :
    (x.place row' src).Firm row := by
  have hemptied : ∀ {P : Prop}, x.state.serves = false → P := fun hidle => absurd hserves (by simp [hidle])
  have hforward := h.forward_le
  have houtput := h.output_le
  have hon : x.state ≠ .busOff := PortState.ne_of_serves hserves rfl
  unfold PortUnit.place
  cases src with
  | forward =>
    dsimp only
    split
    · exact h
    · next hqueue =>
      rw [hqueue] at hforward
      exact { h with forward_le := Nat.le_of_succ_le hforward, emptied := hemptied }
  | harvest =>
    dsimp only
    split
    · exact h
    · exact { h with emptied := hemptied }
  | management =>
    dsimp only
    split
    · exact h
    · next hqueue =>
      rw [hqueue] at houtput
      exact { h with
        output_le := Nat.le_of_succ_le houtput, emptied := hemptied, silent := fun hoff => absurd hoff hon }

theorem PortUnit.Firm.choose (h : x.Firm row) (row' : PortRow) : (x.choose row').Firm row := by
  unfold PortUnit.choose
  split
  · next hmay =>
    have hserves : x.state.serves = true := (Bool.and_eq_true_iff.1 hmay).1
    split
    · exact h.place hserves row' _
    · exact h
  · exact h

end Sys2Proof.Machine

/-! PROOFS. Every command and every millisecond keeps the ports firm: O7. -/

namespace Sys2Proof.Machine

variable {s : State} {p : Port}

/-! ### Ports that leave the bus, and transmissions -/

theorem pauseStream_berth (s : State) (p : Port) : (pauseStream s p).berth = s.berth := rfl

theorem enterBusOff_berth (s : State) (p : Port) :
    (enterBusOff s p).berth = (s.modPort p PortUnit.enterBusOff).berth := by
  have hlost : (losePort (s.silenced p) p).berth = (s.modPort p PortUnit.enterBusOff).berth := by
    rw [losePort_berth, State.silenced_eq]
    rfl
  rw [(enterBusOff_yieldOnly s p).berth, pauseStream_berth, hlost]

theorem applyPortRow_firm (h : s.Firm) (p : Port) (row : PortRow) : (applyPortRow s p row).Firm := by
  set base := (s.modTables fun t => { t with ports := modifyAt t.ports p fun _ => row }).modPort p fun u =>
    { u.flushed.arbiterReset with state := if row.enable then .joining else .off, txErrors := 0, rxErrors := 0 }
    with hbase
  have hfirm : base.Firm := fun q => by
    have hrow : base.portRow q = if q = p then row else s.portRow q := by
      simp [hbase, State.portRow]
    rw [hrow, hbase, State.modPort_port]
    split
    · exact (h q).restarted (by decide) (by decide)
    · exact h q
  refine hfirm.of_berth ?_
  rw [applyPortRow, (settleLook_yieldOnly _ s).berth, pauseStream_berth, losePort_berth]

theorem frameSent_firm (h : s.Firm) (p : Port) : (frameSent s p).Firm := by
  unfold frameSent
  (repeat' split)
  · exact h
  · next hserves =>
    have hlt := (h p).tec_lt_of_serves hserves
    refine (changeErrors_firm (f := fun u => { u with tx := none, txErrors := u.txErrors - 1 }) h hserves (by omega)
      (h p).rec_le rfl).of_berth ?_
    apply State.berth_of_same <;> simp
  · exact h

theorem frameFailed_firm (h : s.Firm) (p : Port) : (frameFailed s p).Firm := by
  unfold frameFailed
  (repeat' split)
  · exact h
  · next hserves _ =>
    have hlt := (h p).tec_lt_of_serves hserves
    refine State.Firm.of_berth (s := s.modPort p fun u => PortUnit.enterBusOff { u with txErrors := u.txErrors + 8 })
      (h.modPort ((h p).enterBusOff (by omega) (PortState.ne_of_serves hserves rfl))) ?_
    rw [enterBusOff_berth]
    refine State.berth_eq (fun _ => rfl) fun q => ?_
    simp only [State.modPort_port]
    split <;> rfl
  · next hserves hlow => exact changeErrors_firm h hserves (by omega) (h p).rec_le rfl
  · exact h

/-! ### Arrivals -/

theorem takeReply_firm (h : s.Firm) (p : Port) (row : IdentRow) (data : List Byte) : (takeReply s p row data).Firm := by
  unfold takeReply giveReply
  (repeat' split)
  · exact countMalformed_firm h p
  · exact countStray_firm h p
  · exact countStray_firm h p
  · exact h.of_berth (takeHeader_berth s _ _ _)
  · exact h.of_berth (takeRecord_berth s _ _ _ _)
  all_goals exact countStray_firm h p

theorem handOn_firm (h : s.Firm) (p : Port) (f : Frame) (row : IdentRow) : (handOn s p f row).Firm := by
  unfold handOn
  split
  · exact h
  cases row.cls with
  | pass => exact h
  | announce =>
    unfold takeAnnouncement
    dsimp only
    split
    · exact h.of_berth (takeMerge_berth s _)
    · exact countMalformed_firm h p
  | reply => exact takeReply_firm h p row f.data
  | key =>
    unfold takeKey
    dsimp only
    split
    · exact h.of_berth (keyValue_berth s _ _ _)
    · exact countMalformed_firm h p
  | time =>
    unfold takeTime
    dsimp only
    split
    · refine h.of_berth (State.berth_of_same ?_ ?_) <;> simp
    · exact countMalformed_firm h p
  | manage =>
    unfold takeManage takeRequest
    dsimp only
    (repeat' split)
    · exact h
    · next hfree => exact queueOutput_one_firm h hfree _
    · exact h
    · next hfree => exact queueOutput_one_firm h hfree _
    · exact h
    · exact h

theorem arrivalLowersRec_firm (h : s.Firm) (p : Port) : (arrivalLowersRec s p).Firm := by
  unfold arrivalLowersRec
  split
  · next hserves =>
    have hle := (h p).rec_le
    have hlt := (h p).tec_lt_of_serves hserves
    exact changeErrors_firm (re := (s.port p).rxErrors - 1) h hserves hlt (by omega) rfl
  · exact h

theorem takeArrival_firm (h : s.Firm) (p : Port) (f : Frame) : (takeArrival s p f).Firm := by
  have hseen : (arrivalLowersRec (arrivalSeen s) p).Firm :=
    arrivalLowersRec_firm (h.of_berth (State.berth_of_same (by simp) (by simp))) p
  unfold takeArrival
  dsimp only
  set seen := arrivalLowersRec (arrivalSeen s) p
  split
  · exact forwardFrame_firm hseen p f _
  next row _ =>
  have hgiven : (handOn (if row.cls = .manage then seen else forwardFrame seen p f row.route) p f row).Firm := by
    refine handOn_firm ?_ p f row
    split
    · exact hseen
    · exact forwardFrame_firm hseen p f _
  split
  · exact hgiven.of_berth (State.berth_of_same (by simp) (by simp))
  · exact hgiven

/-! ### Streams -/

theorem queueHeld_firm (h : s.Firm) : (queueHeld s).Firm := by
  unfold queueHeld
  split
  · split
    · next hfree => exact queueOutput_one_firm h hfree _
    · exact h
  all_goals exact h

theorem lookExport_firm (h : s.Firm) : (lookExport s).Firm := by
  unfold lookExport
  (repeat' split)
  · next hfree _ e _ =>
    have hframes : (queueOutput s s.streamer.port
        [s.managementFrame (entryFrameA e), s.managementFrame (entryFrameB e)]).Firm :=
      queueOutput_firm h (Nat.le_of_succ_le hfree)
    unfold exportEntry
    dsimp only
    split <;> exact hframes
  · next hfree _ _ => exact queueOutput_one_firm h (Nat.zero_lt_of_lt hfree) _
  · exact h
  · exact h

theorem lookSnapshot_firm (h : s.Firm) : (lookSnapshot s).Firm := by
  have hend : ∀ complete, 1 ≤ s.freePlaces s.streamer.port → (endSnapshot s complete).Firm := fun complete hfree => by
    have hframe := queueOutput_one_firm h hfree
      (s.managementFrame (snapshotEnd s.streamer.owner s.streamer.sent complete))
    cases complete <;> exact hframe
  unfold lookSnapshot
  dsimp only
  (repeat' split)
  · next hfree => exact hend false hfree
  · exact h
  · next hfree => exact hend true hfree
  · exact h
  · next hfree _ f _ =>
    exact queueOutput_firm (fs := [s.managementFrame (snapshotFirst f _ _), s.managementFrame (snapshotSecond f)]) h
      (Nat.le_of_succ_le hfree)
  all_goals exact h

theorem queueNotice_firm (h : s.Firm) : (queueNotice s).Firm := by
  unfold queueNotice
  split
  · next hdue =>
    have hfree : 0 < s.freePlaces s.general.noticePort := by
      simp only [State.noticeDue, Bool.and_eq_true, decide_eq_true_eq] at hdue
      exact hdue.1.2
    exact queueOutput_one_firm h hfree _
  · exact h

/-! ### Power and requests -/

theorem modAllPorts_firm {f : PortUnit → PortRow → PortUnit}
    (hf : ∀ p, (f (s.port p) (s.portRow p)).Firm (s.portRow p)) : (modAllPorts s f).Firm := fun p => by
  rw [modAllPorts_port, State.portRow_eq (by simp : (modAllPorts s f).tables = s.tables)]
  exact hf p

theorem powerOnBase_firm (s : State) : (powerOnBase s).Firm := fun p => by
  have hport : (powerOnBase s).port p =
      PortUnit.start (if ((powerOnBase s).portRow p).enable then .joining else .off) :=
    powerOnBase_port s p
  rw [hport]
  exact PortUnit.start_firm _

theorem enterSleep_firm (h : s.Firm) : (enterSleep s).Firm := by
  refine (modAllPorts_firm fun p => (h p).sleep).of_berth (State.berth_of_same ?_ ?_) <;> simp [enterSleep]

/-- No port of a part in SLEEP is BUS_OFF, so the error counts that a wake keeps are in range (R173, R175). -/
def State.SleepsOffBus (s : State) : Prop := s.retention.power = .sleep → ∀ p, (s.port p).state ≠ .busOff

theorem State.Inv.sleepsOffBus (hs : s.Inv) : s.SleepsOffBus := fun hsleep p => by
  obtain ⟨-, hasleep, -⟩ := hs.sleep
  obtain ⟨-, -, -, hstate, -⟩ := hasleep hsleep
  rw [hstate]
  split <;> nofun

theorem wakeUp_firm (h : s.Firm) (hbus : ∀ p, (s.port p).state ≠ .busOff) : (wakeUp s).Firm := by
  have hports : (modAllPorts s PortUnit.wake).Firm :=
    modAllPorts_firm fun p => (h p).restarted ((h p).tec_lt (hbus p)) (h p).rec_le
  refine hports.of_berth (State.berth_of_same ?_ ?_) <;> rw [wakeUp_eq]
  exact (modAllPorts_frame s _).2.1.symm

theorem State.resetting_berth (s : State) : s.resetting.berth = s.berth := rfl

/-- What follows the fresh start of the ports in a SOFT_RESET leaves them (R164). -/
theorem finishSlots_berth (s : State) (p : Port) :
    (finishSlots (emptyRings { s with engine := { s.engine with lastGranted := p } })).berth = s.berth := rfl

theorem softReset_firm (h : s.Firm) : (softReset s).Firm := by
  have hcut : (cutAll s.resetting).Firm := h.of_berth ((cutAll_berth _).trans s.resetting_berth)
  have hports : (modAllPorts (cutAll s.resetting) PortUnit.softReset).Firm :=
    modAllPorts_firm fun p => (hcut p).restarted (by decide) (by decide)
  rw [softReset_eq]
  exact hports.of_berth (finishSlots_berth _ 2)

theorem serve_firm {k : RequestKind} {effect : State → Port → List Byte → Answer} (h : s.Firm)
    (heffect : ∀ p data, (effect s p data).state.Firm) : (checkSleep (serve s k effect)).Firm := by
  refine State.Firm.of_berth (s := serve s k effect) ?_ (State.berth_of_same (by simp) (by simp))
  unfold serve
  (repeat' split)
  · exact respond_firm (heffect _ _) _ _
  all_goals exact h

theorem needBytes_firm {k : Nat} {data : List Byte} {a : Answer} (h : s.Firm) (ha : a.state.Firm) :
    (needBytes k s data a).state.Firm := by
  unfold needBytes
  split
  · exact h
  · exact ha

theorem commitRow_firm (h : s.Firm) (table row : Nat) : (commitRow s table row).state.Firm := by
  have happly : ∀ {α : Type} (x : Option α) (f : α → State), (∀ a, (f a).Firm) → (applyDecoded s x f).state.Firm := by
    intro α x f hf
    cases x with
    | none => exact h
    | some a => exact hf a
  unfold commitRow
  dsimp only
  (repeat' split)
  · exact happly _ _ fun _ => h
  · exact h
  · exact h.of_berth (applyOrDefer_berth s _)
  · exact h
  · exact h.of_berth (applyOrDefer_berth s _)
  · exact h
  · exact happly _ _ fun r => applyPortRow_firm h _ r
  · exact h
  · exact happly _ _ fun r => h.of_berth (applyGeneral_berth s r)
  · exact h
  · exact h

theorem serveRecover_firm (h : s.Firm) (p : Port) (data : List Byte) : (serveRecover s p data).state.Firm := by
  refine needBytes_firm h ?_
  (repeat' split)
  · exact h
  · next q _ hoff => exact h.modPort ((h q).rejoin hoff)
  · exact h

/-! ### Time -/

theorem passMillisecond_firm (h : s.Firm) : (passMillisecond s).Firm := by
  unfold passMillisecond
  dsimp only
  split
  · exact h
  · intro p
    have hport : (runTimers (s.modClock Clock.millisecond)).port p = if (s.port p).state.serves then
        { s.port p with guardTimer := tickTimer (s.port p).guardTimer } else s.port p := mapAll_get ..
    rw [hport]
    split
    · exact { h p with }
    · exact h p

end Sys2Proof.Machine

/-! PROOFS. Every step keeps the ports in order: O7. -/

namespace Sys2Proof.Machine

variable {s : State}

/-- Every command keeps the ports firm. -/
theorem exec_firm (i : Instr) (h : s.Firm) (hsleeps : s.SleepsOffBus) : Leads (exec i s) State.Firm := by
  have hstay : Leads (.next s) State.Firm := leads_next.2 h
  have hkept : ∀ {t : State}, t.berth = s.berth → Leads (.next t) State.Firm := fun k => leads_next.2 (h.of_berth k)
  have hchecked : ∀ {t : State}, t.Firm → Leads (.next (checkSleep t)) State.Firm := fun {t} k =>
    leads_next.2 (k.of_berth (State.berth_of_same (by simp) (by simp)))
  cases i with
  | powerOn => exact leads_next.2 ((powerOnBase_firm s).of_berth (keyOnAtStart_berth _))
  | arrival p f =>
    simp only [exec, execArrival]
    (repeat' split)
    · exact leads_next.2 (takeArrival_firm h p f)
    · exact hstay
    · exact leads_refused
  | receiveError p =>
    simp only [exec, execReceiveError]
    split
    · next hserves =>
      have hlt := (h p).tec_lt_of_serves hserves
      refine leads_next.2 (changeErrors_firm (re := satAdd 255 (s.port p).rxErrors 1) h hserves hlt ?_ rfl)
      exact Nat.min_le_left ..
    · exact hstay
  | transmissionSent p => exact leads_next.2 (frameSent_firm h p)
  | transmissionFailed p => exact hchecked (frameFailed_firm h p)
  | lostArbitration => exact hstay
  | busIdle p =>
    simp only [exec, execBusIdle]
    split
    · next hjoining =>
      have hjoined : (s.modPort p fun u => { u with state := u.busIdleState (s.portRow p) }).Firm :=
        h.modPort ((h p).busIdle hjoining)
      split
      · exact leads_next.2 (hjoined.of_berth (lookCheck_berth _))
      · exact leads_next.2 hjoined
    · exact hstay
  | recoveryEvent p =>
    simp only [exec, execRecoveryEvent]
    split
    · next hoff => exact leads_next.2 (h.modPort ((h p).rejoin hoff.1))
    · exact hstay
  | transmitChoice p => exact leads_next.2 (h.modPort ((h p).choose _))
  | guardTimerExpiry p =>
    refine leads_next.2 (h.modPort ?_)
    split
    · exact { h p with }
    · exact h p
  | grant =>
    simp only [exec, execGrant]
    split
    · next g _ =>
      have habandoned : (abandonSave s).berth = s.berth := State.berth_of_same (by simp) (by simp)
      exact hkept ((lookCheck_berth _).trans ((bindContext_berth _ g).trans habandoned))
    · exact hstay
  | waitTimerExpiry c =>
    simp only [exec, execWaitTimerExpiry]
    (repeat' split)
    · exact hchecked (h.of_berth (retryPoint_berth s c))
    · exact hstay
    · exact hstay
  | keyLossTimerExpiry =>
    simp only [exec, execKeyLossTimerExpiry]
    (repeat' split)
    · exact hstay
    · exact hkept (keyOffEvent_berth _)
    · exact hkept rfl
  | roundTick =>
    simp only [exec, execRoundTick]
    (repeat' split)
    · exact hkept ((raiseRound_berth _).trans (endRound_berth s))
    · exact hkept (endRound_berth s)
    · exact hkept (raiseRound_berth s)
    · exact hstay
  | roundEnd =>
    simp only [exec, execRoundEnd]
    split
    · exact hkept (endRound_berth s)
    · exact hstay
  | keyOffGraceExpiry =>
    simp only [exec, execKeyOffGraceExpiry]
    split
    · exact hchecked (h.of_berth (cutAll_berth _))
    · exact hstay
  | captureTrigger k =>
    simp only [exec, execCaptureTrigger]
    (repeat' split)
    · exact hstay
    · exact hkept (State.berth_of_same (by simp) (by simp))
    · exact hstay
  | sleepDelayExpiry =>
    simp only [exec, execSleepDelayExpiry]
    split
    · exact hchecked h
    · exact hstay
    · exact hstay
  | saveComplete =>
    simp only [exec, execSaveComplete]
    split
    · exact leads_next.2 (enterSleep_firm h)
    · exact hstay
  | wake p =>
    simp only [exec, execWake]
    split
    · next hsleep =>
      exact leads_next.2 ((wakeUp_firm h (hsleeps hsleep.1)).of_berth (keyOnAtStart_berth _))
    · exact hstay
  | internalTick | holdTimerExpiry | postWindowExpiry | noticeIntervalExpiry => exact hkept rfl
  | queueHeldResponse => exact leads_next.2 (queueHeld_firm h)
  | exportLook => exact hchecked (lookExport_firm h)
  | snapshotLook => exact hchecked (lookSnapshot_firm h)
  | queueNotice => exact leads_next.2 (queueNotice_firm h)
  | commit =>
    refine leads_next.2 (serve_firm h fun p data => needBytes_firm h ?_)
    split
    · exact h
    · exact commitRow_firm h _ _
  | softReset => exact leads_next.2 (serve_firm h fun _ _ => softReset_firm h)
  | surveyStop => exact leads_next.2 (serve_firm h fun _ _ => h.of_berth (stopSurvey_berth s))
  | recover => exact leads_next.2 (serve_firm h (serveRecover_firm h))
  | readNow =>
    refine leads_next.2 (serve_firm h fun p data => needBytes_firm h ?_)
    (repeat' split)
    · exact h
    · exact h
    · exact h
    · exact h.of_berth (State.berth_of_same (by simp [okAnswer]) (by simp [okAnswer]))
  | surveyStart =>
    refine leads_next.2 (serve_firm h fun p data => needBytes_firm h ?_)
    split
    · exact h.of_berth (startSurvey_berth s _)
    · exact h
  | clear | release =>
    refine leads_next.2 (serve_firm h fun p data => needBytes_firm h ?_)
    split
    · exact h.of_berth (State.berth_of_same (by simp [okAnswer]) (by simp [okAnswer]))
    · exact h
  | clearAll =>
    refine leads_next.2 (serve_firm h fun _ _ => h.of_berth (State.berth_of_same ?_ ?_)) <;>
      simp [serveClearAll, okAnswer]
  | unknownRequest | status | portStatus | stationStatus | readRow | readEntry | stage | setClock | exportStart
  | exportStop | snapshot | notices =>
    refine leads_next.2 (serve_firm h fun p data => ?_)
    simp only [serveUnknown, serveStatus, servePortStatus, serveStationStatus, serveReadRow, serveReadEntry, serveStage,
      serveSetClock, serveExport, serveExportStop, serveSnapshot, serveNotices, needBytes, okAnswer, plainAnswer]
    (repeat' split) <;> exact h

/-- Settles O7: each command keeps the ports firm, and a port that does not serve has no query, since the dialogue of
the query would have no port that serves it. -/
theorem stepKeepsPorts : Obligations.StepKeepsPorts := by
  intro s t hs ht
  have hfirm : t.Firm := by
    rcases step_cases ht with ⟨c, rest, -, hc⟩ | ⟨-, c, u, hu, hc⟩ | ⟨-, -, rfl⟩
    · exact exec_firm c (s := { s with pending := rest }) hs.firm hs.sleepsOffBus t hc
    · rcases (idleChoice_cases hu).2 with rfl | rfl
      · exact exec_firm c hs.firm hs.sleepsOffBus t hc
      · exact exec_firm c (s := s.choose) hs.firm hs.sleepsOffBus t hc
    · exact passMillisecond_firm hs.firm
  obtain ⟨-, hharvest⟩ := stepKeepsDialogues s t hs ht
  obtain ⟨-, -, hserves, -⟩ := stepKeepsBindings s t hs ht
  exact hfirm.portsOk hharvest hserves

end Sys2Proof.Machine

/-! PROOFS. The staged layout of IDENT rows (O14): each field of a row is spelled by its bytes. -/

namespace Sys2Proof.Machine

/-! ### Codes -/

theorem classOf_eq_some_iff {x : Nat} {k : FrameClass} : classOf x = some k ↔ x = classCode k := by
  constructor
  · intro h
    unfold classOf at h
    split at h <;> cases h <;> rfl
  · rintro rfl
    cases k <;> rfl

theorem readPattern_patternWords (k : IdPattern) : readPattern (patternWords k).1 (patternWords k).2 = some k := by
  cases k with
  | standard v m =>
    have hid : readId v.toNat = some (.standard v) := readId_idWord (.standard v)
    simp [readPattern, patternWords, hid, m.isLt]
  | extended v m =>
    have hid : readId (2147483648 + v.toNat) = some (.extended v) := readId_idWord (.extended v)
    simp [readPattern, patternWords, hid, m.isLt]

theorem readPattern_eq_some_iff {v m : Nat} {k : IdPattern} : readPattern v m = some k ↔
    v = (patternWords k).1 ∧ m = (patternWords k).2 := by
  constructor
  · intro h
    have hmask : ∀ {w n : Nat}, n < 2 ^ w → n = (BitVec.ofNat w n).toNat := fun hn => by
      rw [BitVec.toNat_ofNat, Nat.mod_eq_of_lt hn]
    unfold readPattern at h
    split at h
    · next x hx =>
      obtain ⟨hm, hk⟩ := Option.ite_none_right_eq_some.1 h
      cases hk
      exact ⟨readId_eq_some_iff.1 hx, hmask hm⟩
    · next x hx =>
      obtain ⟨hm, hk⟩ := Option.ite_none_right_eq_some.1 h
      cases hk
      exact ⟨readId_eq_some_iff.1 hx, hmask hm⟩
    · cases h
  · rintro ⟨rfl, rfl⟩
    exact readPattern_patternWords k

theorem patternWords_lt (k : IdPattern) : (patternWords k).1 < 256 ^ 4 ∧ (patternWords k).2 < 256 ^ 4 := by
  cases k with
  | standard v m => have := v.isLt; have := m.isLt; simp only [patternWords]; omega
  | extended v m => have := v.isLt; have := m.isLt; simp only [patternWords]; omega

theorem flags_eq_iff_two {n : Nat} {a b : Bool} :
    n = flagBit 1 a + flagBit 2 b ↔ n < 4 ∧ n.testBit 0 = a ∧ n.testBit 1 = b := by
  constructor
  · rintro rfl
    revert a b
    decide
  · rintro ⟨hn, rfl, rfl⟩
    revert n
    decide

/-- The flags byte holds the ENABLE and SNAP flags below the ingress set (Table 13.7). -/
theorem identFlags_eq_iff {n : Nat} {a b : Bool} {ps : PortSet} :
    n = flagBit 1 a + flagBit 2 b + 4 * portBits ps ↔
      n < 32 ∧ n.testBit 0 = a ∧ n.testBit 1 = b ∧ portSetOf (n / 4) = ps := by
  have hflags := (flags_eq_iff_two (a := a) (b := b)).1 rfl |>.1
  have hlow : ∀ i < 2, (n % 4).testBit i = n.testBit i := fun i hi => by
    rw [show (4 : Nat) = 2 ^ 2 from rfl, Nat.testBit_mod_two_pow]
    simp [hi]
  have hsplit : n = flagBit 1 a + flagBit 2 b + 4 * portBits ps ↔
      n % 4 = flagBit 1 a + flagBit 2 b ∧ n / 4 = portBits ps := by omega
  have hmod : n % 4 < 4 := Nat.mod_lt _ (by decide)
  have hdiv : n / 4 < 8 ↔ n < 32 := by omega
  rw [hsplit, flags_eq_iff_two, eq_portBits_iff, hlow 0 (by decide), hlow 1 (by decide), hdiv]
  exact ⟨fun ⟨⟨_, ha, hb⟩, hn, hps⟩ => ⟨hn, ha, hb, hps⟩, fun ⟨hn, ha, hb, hps⟩ => ⟨⟨hmod, ha, hb⟩, hn, hps⟩⟩

/-! ### IDENT rows -/

/-- Each field of an IDENT row is what its staged bytes spell (R127, Table 13.7). -/
structure IdentRow.ReadsFrom (r : IdentRow) (bs : List Byte) : Prop where
  flags : stagedByte bs 0 = flagBit 1 r.enable + flagBit 2 r.snap + 4 * portBits r.ingress
  cls : stagedByte bs 1 = classCode r.cls
  route : stagedByte bs 2 = portBits r.route
  station : stagedByte bs 3 = r.station.val
  descriptor : stagedByte bs 4 = r.descriptor.val
  value : stagedField bs 5 4 = (patternWords r.pattern).1
  mask : stagedField bs 9 4 = (patternWords r.pattern).2

theorem decodeIdent_eq_some_iff {bs : List Byte} {r : IdentRow} : decodeIdent bs = some r ↔ r.ReadsFrom bs := by
  constructor
  · intro h
    unfold decodeIdent at h
    dsimp only at h
    split at h
    · next cls st d pat hcls hst hd hpat =>
      obtain ⟨hok, rfl⟩ := keepIf_eq_some_iff.1 h
      obtain ⟨hflags, hroute⟩ := Bool.and_eq_true_iff.1 hok
      obtain ⟨hvalue, hmask⟩ := readPattern_eq_some_iff.1 hpat
      exact
        { flags := identFlags_eq_iff.2 ⟨of_decide_eq_true hflags, rfl, rfl, rfl⟩
          cls := classOf_eq_some_iff.1 hcls
          route := eq_portBits_iff.2 ⟨of_decide_eq_true hroute, rfl⟩
          station := finOf_eq_some_iff.1 hst
          descriptor := finOf_eq_some_iff.1 hd
          value := hvalue
          mask := hmask }
    · cases h
  · intro h
    obtain ⟨hlow, henable, hsnap, hingress⟩ := identFlags_eq_iff.1 h.flags
    obtain ⟨hbits, hroute⟩ := eq_portBits_iff.1 h.route
    have hcls := classOf_eq_some_iff.2 h.cls
    have hst := finOf_eq_some_iff.2 h.station
    have hd := finOf_eq_some_iff.2 h.descriptor
    have hpat := readPattern_eq_some_iff.2 ⟨h.value, h.mask⟩
    simp only [decodeIdent, hcls, hst, hd, hpat, henable, hsnap, hingress, hroute]
    exact keepIf_eq_some_iff.2 ⟨by simp [hlow, hbits], rfl⟩

theorem encodeIdent_eq (r : IdentRow) : encodeIdent r =
    byte (flagBit 1 r.enable + flagBit 2 r.snap + 4 * portBits r.ingress) :: byte (classCode r.cls) ::
      byte (portBits r.route) :: byte r.station.val :: byte r.descriptor.val ::
      (bigEndian 4 (patternWords r.pattern).1 ++ (bigEndian 4 (patternWords r.pattern).2 ++ [])) := by
  simp only [encodeIdent, List.cons_append, List.nil_append, List.append_nil]

/-- The bytes of a row in order spell its fields, one block after the other. -/
theorem IdentRow.readsFrom_iff {bs : List Byte} {r : IdentRow} (hbs : 13 ≤ bs.length) :
    r.ReadsFrom bs ↔ bs.take 13 = encodeIdent r := by
  have hflags := (identFlags_eq_iff (a := r.enable) (b := r.snap) (ps := r.ingress)).1 rfl |>.1
  have hcls : classCode r.cls < 6 := by cases r.cls <;> decide
  have hroute := (eq_portBits_iff (ps := r.route)).1 rfl |>.1
  have hst := r.station.isLt
  have hd := r.descriptor.isLt
  obtain ⟨hvalue, hmask⟩ := patternWords_lt r.pattern
  rw [encodeIdent_eq]
  change _ ↔ (bs.drop 0).take 13 = _
  simp (disch := omega) only [take_drop_eq_byte_cons_iff, take_drop_eq_bigEndian_append_iff, Nat.reduceAdd,
    Nat.reduceSub, List.take_zero, and_true]
  exact ⟨fun ⟨h0, h1, h2, h3, h4, h5, h9⟩ => ⟨h0, h1, h2, h3, h4, h5, h9⟩,
    fun ⟨h0, h1, h2, h3, h4, h5, h9⟩ => ⟨h0, h1, h2, h3, h4, h5, h9⟩⟩

/-- Settles O14: a row decodes exactly when its bytes spell its fields, block by block; every field of a row fits its
bytes by its type, so there is no row to leave out. -/
theorem identRowsRoundTrip : Obligations.IdentRowsRoundTrip := fun _ _ hbs =>
  decodeIdent_eq_some_iff.trans (IdentRow.readsFrom_iff hbs)

end Sys2Proof.Machine

/-! PROOFS. The controller's events at a port: O17, O20 and O21. -/

namespace Sys2Proof.Machine

variable {s t : State} {p : Port}

/-! ### Error counts (R120, R121) -/

/-- A port that serves and whose error counts change is ACTIVE or PASSIVE by them, and a look may follow (R120). -/
theorem changeErrors_settles {f : PortUnit → PortUnit} (hserves : (f (s.port p)).state.serves = true) :
    (s.modPort p fun _ => { f (s.port p) with
      state := if (f (s.port p)).txErrors < 128 ∧ (f (s.port p)).rxErrors < 128 then .active else .passive }).YieldOnly
        (changeErrors s p f) := by
  have hsettled : (s.modPort p fun u => { f u with state := (f u).confined }) = s.modPort p fun _ =>
      { f (s.port p) with
        state := if (f (s.port p)).txErrors < 128 ∧ (f (s.port p)).rxErrors < 128 then .active else .passive } := by
    refine modPort_congr ?_
    rw [PortUnit.confined_of_serves hserves]
  exact hsettled ▸ changeErrors_yieldOnly s p f

/-- No condition of sleep entry reads a yield-pending flag (R172). -/
theorem State.YieldOnly.readyToSleep (h : s.YieldOnly t) : t.readyToSleep = s.readyToSleep := by
  obtain ⟨-, -, -, hclock, -, -, -, hmanagement, hstreamer, -, hretention, -⟩ := h.fields
  have hfree : t.allFree = s.allFree := by
    unfold State.allFree
    congr 1
    funext c
    rcases h.2 c with hc | hc <;> rw [hc]
    exact Option.isNone_map ..
  unfold State.readyToSleep State.serving
  rw [hclock, hmanagement, hstreamer, hretention, hfree]

theorem exec_receiveError_of_serves (h : (s.port p).state.serves = true) : exec (.receiveError p) s =
    .next (changeErrors s p fun u => { u with rxErrors := satAdd 255 u.rxErrors 1 }) := if_pos h

theorem frameFailed_of_lt (hserves : (s.port p).state.serves = true) (htx : (s.port p).tx ≠ none)
    (hlimit : (s.port p).txErrors + 8 < 256) : frameFailed s p =
      changeErrors s p fun u => { u with txErrors := u.txErrors + 8 } := by
  obtain ⟨x, hx⟩ := Option.ne_none_iff_exists'.1 htx
  simp only [frameFailed, hx, hserves, if_true, if_neg (not_le.2 hlimit)]

/-- A failed attempt that leaves TEC below 256 starts no save (R120, R121, R172). -/
theorem exec_transmissionFailed_of_lt (hawake : s.readyToSleep = false) (hserves : (s.port p).state.serves = true)
    (htx : (s.port p).tx ≠ none) (hlimit : (s.port p).txErrors + 8 < 256) : exec (.transmissionFailed p) s =
      .next (changeErrors s p fun u => { u with txErrors := u.txErrors + 8 }) := by
  have hexec : exec (.transmissionFailed p) s = .next (checkSleep (frameFailed s p)) := rfl
  have hsettled := changeErrors_settles (f := fun u => { u with txErrors := u.txErrors + 8 }) hserves
  rw [hexec, frameFailed_of_lt hserves htx hlimit, checkSleep_of_busy (hsettled.readyToSleep.trans hawake)]

/-- Settles O17: each event is a change of the error counts, and a failed attempt starts no save. -/
theorem errorCountsFollowEvents : Obligations.ErrorCountsFollowEvents := fun p _ hawake hserves =>
  ⟨⟨_, exec_receiveError_of_serves hserves,
    changeErrors_settles (f := fun u => { u with rxErrors := satAdd 255 u.rxErrors 1 }) hserves⟩,
    fun htx hlimit => ⟨_, exec_transmissionFailed_of_lt hawake hserves htx hlimit,
      changeErrors_settles (p := p) (f := fun u => { u with txErrors := u.txErrors + 8 }) hserves⟩⟩

/-! ### Events that change nothing else (R117, R121, R140) -/

theorem modPort_self {f : PortUnit → PortUnit} (h : f (s.port p) = s.port p) : s.modPort p f = s :=
  State.eq_of_components rfl rfl rfl rfl rfl rfl (modifyAt_id _ _ _ h) rfl rfl rfl rfl rfl rfl

theorem frameSent_of_idle (h : (s.port p).state.serves = false ∨ (s.port p).tx = none) : frameSent s p = s := by
  unfold frameSent
  split
  · rfl
  · next x hx =>
    have hidle := h.resolve_right (by simp [hx])
    simp [hidle]

theorem frameFailed_of_idle (h : (s.port p).state.serves = false ∨ (s.port p).tx = none) : frameFailed s p = s := by
  unfold frameFailed
  split
  · rfl
  · next x hx =>
    have hidle := h.resolve_right (by simp [hx])
    simp [hidle]

/-- Settles O20: the meaning of each event, with its conditions not met or with the one timer it stops. -/
theorem quietPortEvents : Obligations.QuietPortEvents := by
  refine fun p s hawake => ⟨rfl, fun hidle => ?_, fun hidle => ⟨?_, ?_⟩, fun hserves => ?_, fun hidle => ?_, rfl,
    fun f hf => ?_⟩
  · simp [exec, execReceiveError, hidle]
  · exact congrArg Host.Outcome.next (frameSent_of_idle hidle)
  · have hexec : exec (.transmissionFailed p) s = .next (checkSleep (frameFailed s p)) := rfl
    rw [hexec, frameFailed_of_idle hidle, checkSleep_of_busy hawake]
  · exact congrArg Host.Outcome.next (modPort_congr (if_pos hserves))
  · exact congrArg Host.Outcome.next (modPort_self (by simp [hidle]))
  · simp [exec, execArrival, hf]

/-! ### Ports that come back (R118, R123, R168) -/

theorem resumeStream_eq (s : State) (p : Port) : resumeStream s p =
    if s.streamer.state = .paused ∧ s.streamer.port = p then
      { s with streamer := { s.streamer with state := .streaming } } else s := by
  by_cases h : s.streamer.state = .paused ∧ s.streamer.port = p
  · simp only [resumeStream, State.modStreamer, if_pos h]
  · simp only [resumeStream, State.modStreamer, if_neg h]

theorem exec_busIdle_of_joining (h : (s.port p).state = .joining) {st : PortState}
    (hst : (s.port p).busIdleState (s.portRow p) = st) : exec (.busIdle p) s =
      .next (if st.serves then lookCheck (resumeStream (s.modPort p fun v => { v with state := st }) p)
        else s.modPort p fun v => { v with state := st }) := by
  have hmoved : (s.modPort p fun u => { u with state := u.busIdleState (s.portRow p) }) =
      s.modPort p fun v => { v with state := st } := modPort_congr (by rw [hst])
  simp only [exec, execBusIdle, h, if_true, hmoved, State.modPort_port]
  split <;> rfl

/-- Settles O21: each event where its port is in the state it is for, and where it is not. -/
theorem portsRejoin : Obligations.PortsRejoin := by
  refine fun p s => ⟨fun hjoining hlisten => ?_, fun hjoining hlisten => ?_, fun hother => if_neg hother,
    fun hoff hauto => if_pos ⟨hoff, hauto⟩, fun hstays => if_neg fun ⟨hoff, hauto⟩ => ?_⟩
  · exact exec_busIdle_of_joining hjoining (if_pos hlisten)
  · intro joined resumed
    set st : PortState := if (s.port p).txErrors < 128 ∧ (s.port p).rxErrors < 128 then .active else .passive with hst
    have hstate : (s.port p).busIdleState (s.portRow p) = st := if_neg (by simp [hlisten])
    have hserves : st.serves = true := by
      rw [hst]
      split <;> rfl
    have hjoined : joined = s.modPort p fun v => { v with state := st } := modPort_congr rfl
    have hresumed : resumed = resumeStream joined p := (resumeStream_eq joined p).symm
    refine ⟨lookCheck resumed, ?_, lookCheck_yieldOnly resumed⟩
    rw [exec_busIdle_of_joining hjoining hstate, if_pos hserves, hresumed, hjoined]
  · rcases hstays with h | h
    · exact h hoff
    · exact absurd hauto (by simp [h])

end Sys2Proof.Machine

/-! PROOFS. What becomes of an arrival: its class, its request and its place in the ring: O24, O27 and O28. -/

namespace Sys2Proof.Machine

variable {s t : State} {p : Port} {f : Frame} {row : IdentRow}

/-! ### Classification (R128) -/

theorem classify_of_lowest {n : Fin 96} (hn : (s.tables.ident.get n).covers p f.id = true)
    (hlower : ∀ m < n, (s.tables.ident.get m).covers p f.id = false) :
    s.classify p f = some (s.tables.ident.get n) := by
  refine List.find?_eq_some_iff_getElem.2 ⟨hn, n.val, by simp, by simp, fun j hj => ?_⟩
  simpa using hlower ⟨j, hj.trans n.isLt⟩ hj

theorem classify_of_no_match (h : ∀ n, (s.tables.ident.get n).covers p f.id = false) : s.classify p f = none := by
  refine List.find?_eq_none.2 fun x hx => ?_
  obtain ⟨n, -, rfl⟩ := List.mem_map.1 hx
  simp [h n]

theorem classify_eq_of_tables (h : t.tables = s.tables) : t.classify p f = s.classify p f := by
  rw [State.classify, h, State.classify]

/-- What an arrival at a port that accepts frames finds when it is classified (R129). -/
def State.heard (s : State) (p : Port) : State := arrivalLowersRec (arrivalSeen s) p

theorem State.heard_tables (s : State) (p : Port) : (s.heard p).tables = s.tables := by simp [State.heard]

theorem takeArrival_of_row (h : s.classify p f = some row) : takeArrival s p f =
    let sent := if row.cls = .manage then s.heard p else forwardFrame (s.heard p) p f row.route
    let taken := handOn sent p f row
    if row.snap then
      ringStep taken sent.snapshots.triggers.length p { frame := f, c := s.clock.c, ms := s.clock.ms } else taken := by
  have hclass : (s.heard p).classify p f = some row := (classify_eq_of_tables (s.heard_tables p)).trans h
  unfold State.heard at hclass ⊢
  simp only [takeArrival, hclass]

theorem takeArrival_of_no_match (h : s.classify p f = none) : takeArrival s p f =
    forwardFrame (s.heard p) p f (s.portRow p).defaultRoute := by
  have hclass : (s.heard p).classify p f = none := (classify_eq_of_tables (s.heard_tables p)).trans h
  have hrow : (s.heard p).portRow p = s.portRow p := State.portRow_eq (s.heard_tables p) p
  unfold State.heard at hclass hrow ⊢
  simp only [takeArrival, hclass, hrow]

theorem exec_arrival_of_accepts (hwf : f.wf = true) (haccepts : (s.port p).state.accepts = true) :
    exec (.arrival p f) s = .next (takeArrival s p f) := by
  simp [exec, execArrival, hwf, haccepts]

/-- Settles O24: the row that `State.classify` finds is the lowest that matches, and `takeArrival` goes by it. -/
theorem arrivalIsClassifiedAndHandedOn : Obligations.ArrivalIsClassifiedAndHandedOn := by
  intro p f s seen applies
  have hcovers : ∀ n, applies n = (s.tables.ident.get n).covers p f.id := fun n => by
    simp only [applies, IdentRow.covers]
    cases (s.tables.ident.get n).pattern <;> cases f.id <;> rfl
  refine ⟨fun hwf haccepts => ⟨fun n hn hlower => ?_, fun hnone => ?_⟩, fun hwf hdeaf => ?_⟩
  · have hclass : s.classify p f = some (s.tables.ident.get n) :=
      classify_of_lowest (hcovers n ▸ hn) fun m hm => hcovers m ▸ hlower m hm
    rw [exec_arrival_of_accepts hwf haccepts, takeArrival_of_row hclass]
    rfl
  · have hclass : s.classify p f = none := classify_of_no_match fun n => hcovers n ▸ hnone n
    rw [exec_arrival_of_accepts hwf haccepts, takeArrival_of_no_match hclass]
    rfl
  · simp [exec, execArrival, hwf, hdeaf]

/-! ### Requests (R130, R155, R156) -/

theorem handOn_of_unheard (h : f.remote = true ∨ row.cls = .pass) : handOn s p f row = s := by
  unfold handOn
  split
  · rfl
  · next hdata => rw [h.resolve_left hdata]

theorem handOn_manage (hdata : f.remote = false) (hcls : row.cls = .manage) :
    handOn s p f row = takeManage s p f.data := by
  simp only [handOn, hdata, hcls, Bool.false_eq_true, if_false]

theorem takeManage_of_deaf (h : (s.portRow p).managementEnable = false ∨ (s.port p).state.serves = false)
    (data : List Byte) : takeManage s p data = s := by
  unfold takeManage
  rcases h with h | h <;> simp [h]

theorem takeManage_of_hearing (henable : (s.portRow p).managementEnable = true)
    (hserves : (s.port p).state.serves = true) (data : List Byte) : takeManage s p data = takeRequest s p data := by
  simp [takeManage, henable, hserves]

theorem takeRequest_of_taken (h : s.management.slot ≠ .empty) (data : List Byte) : takeRequest s p data =
    if 0 < s.freePlaces p then queueOutput s p [s.managementFrame [requestCode data, 0x01]]
    else s.modManagement fun m => { m with overruns := satAdd 255 m.overruns 1 } := by
  unfold takeRequest
  cases hslot : s.management.slot with
  | empty => exact absurd hslot h
  | serving | waitingOutput => rfl

theorem freePlaces_of_serves (h : (s.port p).state.serves = true) : s.freePlaces p = 8 - (s.port p).output.length := by
  unfold State.freePlaces PortUnit.freePlaces
  rcases (PortState.serves_iff _).1 h with h | h <;> rw [h] <;> rfl

/-- Settles O27: the management unit takes a request whole, or refuses it in one of two ways. -/
theorem requestsReachTheSlot : Obligations.RequestsReachTheSlot := by
  refine fun s p f row => ⟨handOn_of_unheard, fun hdata hcls => ?_⟩
  rw [handOn_manage hdata hcls]
  refine ⟨fun hdeaf => takeManage_of_deaf hdeaf _, fun henable hserves => ?_⟩
  rw [takeManage_of_hearing henable hserves]
  refine ⟨fun hempty => ?_, fun htaken hroom => ?_, fun htaken hfull => ?_⟩
  · simp only [takeRequest, hempty]
    rfl
  · rw [takeRequest_of_taken htaken, if_pos (by rw [freePlaces_of_serves hserves]; omega)]
    rfl
  · rw [takeRequest_of_taken htaken, if_neg (by rw [freePlaces_of_serves hserves]; omega)]
    rfl

/-! ### The ring (R143, R147, R149) -/

theorem pushRing_eq (ring : List RingFrame) (x : RingFrame) :
    pushRing ring x = if ring.length < 12 then ring ++ [x] else ring.drop 1 ++ [x] := by
  unfold pushRing Config.ringCapacity
  by_cases h : ring.length < 12
  · rw [if_pos h, if_neg (not_le.2 h)]
  · rw [if_neg h, if_pos (not_lt.1 h), List.drop_one]

theorem Slot.offer_eq (sl : Slot) (p : Port) (x : RingFrame) : sl.offer p x =
    if sl.state = .filling ∧ sl.port = p then
      if sl.post.length + 1 < sl.target then { sl with post := sl.post ++ [x] }
      else { sl with post := sl.post ++ [x], state := .complete, timer := none }
    else sl := by
  unfold Slot.offer
  by_cases h : sl.post.length + 1 < sl.target
  · rw [if_pos h, if_neg (not_le.2 h)]
  · rw [if_neg h, if_pos (not_lt.1 h)]

theorem enterRing_ring (s : State) (p q : Port) (x : RingFrame) :
    (enterRing s p x).ring q = if q = p then pushRing (s.ring q) x else s.ring q := modifyAt_get ..

theorem enterRing_slot (s : State) (p : Port) (x : RingFrame) (i : SlotNo) :
    (enterRing s p x).slot i = (s.slot i).offer p x := mapAll_get ..

/-- Settles O28: a ring entry, and the order of a capture and the entry that the free value of R149 gives. -/
theorem ringAndPostFrames : Obligations.RingAndPostFrames := by
  refine ⟨fun s p x => ⟨rfl, rfl, ?_, fun q hq => ?_, fun i => ?_⟩,
    fun s before p x => ⟨fun hnone => ?_, fun hnew => ?_⟩⟩
  · rw [enterRing_ring, if_pos rfl, pushRing_eq]
  · rw [enterRing_ring, if_neg hq]
  · rw [enterRing_slot, Slot.offer_eq]
  · exact if_neg (not_lt.2 hnone)
  · have hsome : s.snapshots.triggers ≠ [] := List.ne_nil_of_length_pos (Nat.zero_lt_of_lt hnew)
    have hlast := List.getLast?_eq_getLast_of_ne_nil hsome
    refine ⟨_, hlast, ?_⟩
    rw [ringStep, if_pos hnew]
    split
    · refine .inr ?_
      have hchosen : s.choose.snapshots.triggers.getLast? = some (s.snapshots.triggers.getLast hsome) := hlast
      simp only [takeNewestTrigger, hchosen]
      rfl
    · exact .inl rfl

end Sys2Proof.Machine

/-! PROOFS. The choice of a transmit arbiter: O22. -/

namespace Sys2Proof.Machine

variable {s : State} {p : Port} {x : PortUnit} {row : PortRow} {src : TxSource}

/-- The almost-full override of R139: the forward queue is not empty and its depth is at the level. -/
def PortUnit.AtLevel (x : PortUnit) (row : PortRow) : Prop := row.almostFull ≤ x.forward.length ∧ x.forward ≠ []

/-- No ready source stands before this one in the cycle after the last-served source (R139). -/
def PortUnit.Leads (x : PortUnit) (src : TxSource) : Prop :=
  ∃ before behind, x.lastServed.cycleAfter = before ++ src :: behind ∧ ∀ y ∈ before, x.ready y = false

theorem PortUnit.chosenSource_of_atLevel (h : x.AtLevel row) : x.chosenSource row = some .forward := if_pos h

theorem PortUnit.chosenSource_of_leads (hlevel : ¬ x.AtLevel row) (hready : x.ready src = true)
    (hleads : x.Leads src) : x.chosenSource row = some src := by
  obtain ⟨before, behind, hcycle, hbefore⟩ := hleads
  refine (if_neg hlevel).trans (List.find?_eq_some_iff_append.2 ⟨hready, before, behind, hcycle, fun y hy => ?_⟩)
  rw [hbefore y hy]
  rfl

theorem PortUnit.chosenSource_of_none_ready (h : ∀ y, x.ready y = false) : x.chosenSource row = none := by
  have hempty : x.forward = [] := by simpa [PortUnit.ready] using h .forward
  have hlevel : ¬ x.AtLevel row := fun hfull => hfull.2 hempty
  exact (if_neg hlevel).trans (List.find?_eq_none.2 fun y _ => by simp [h y])

theorem PortUnit.choose_of_mayChoose (h : x.mayChoose = true) (hsrc : x.chosenSource row = some src) :
    x.choose row = x.place row src := by
  simp only [PortUnit.choose, h, hsrc, if_true]

theorem PortUnit.choose_of_no_source (h : x.chosenSource row = none) : x.choose row = x := by
  simp only [PortUnit.choose, h, ite_self]

theorem PortUnit.choose_of_not_mayChoose (h : x.mayChoose = false) : x.choose row = x := by
  simp [PortUnit.choose, h]

theorem PortUnit.place_forward {f : Frame} {rest : List Frame} (h : x.forward = f :: rest) :
    x.place row .forward = { x with tx := some (.forwarded f), forward := rest, lastServed := .forward } := by
  simp only [PortUnit.place, h]

theorem PortUnit.place_harvest {q : Query} {rest : List Query} (h : x.harvest = q :: rest) :
    x.place row .harvest = { x with
      tx := some (.query q), harvest := rest, lastServed := .harvest, guardTimer := startTimer row.guardInterval } := by
  simp only [PortUnit.place, h]

theorem PortUnit.place_management {f : Frame} {rest : List Frame} (h : x.output = f :: rest) :
    x.place row .management = { x with tx := some (.management f), output := rest, lastServed := .management } := by
  simp only [PortUnit.place, h]

/-- The command makes one choice at its port (R138). -/
theorem exec_transmitChoice_of_choose {f : PortUnit → PortUnit} (h : (s.port p).choose (s.portRow p) = f (s.port p)) :
    exec (.transmitChoice p) s = .next (s.modPort p f) :=
  congrArg Host.Outcome.next (modPort_congr h)

theorem exec_transmitChoice_of_unchanged (h : (s.port p).choose (s.portRow p) = s.port p) :
    exec (.transmitChoice p) s = .next s :=
  congrArg Host.Outcome.next (modPort_self h)

/-- Settles O22: the source that `PortUnit.chosenSource` finds is the one named, and its head is placed. -/
theorem transmitChoiceRoundRobin : Obligations.TransmitChoiceRoundRobin := by
  intro p s x row after level
  have hafter : after = x.lastServed.cycleAfter := by cases hlast : x.lastServed <;> simp only [after, hlast] <;> rfl
  rw [hafter]
  refine ⟨fun hserves htx => ?_, fun hbarred => ?_⟩
  · have hmay : x.mayChoose = true := by simp [PortUnit.mayChoose, hserves, htx]
    have hplaced : ∀ {src}, x.chosenSource row = some src → x.choose row = x.place row src :=
      PortUnit.choose_of_mayChoose hmay
    have hled : ∀ {src}, ¬ level → x.ready src = true → x.Leads src → x.choose row = x.place row src :=
      fun hlevel hready hleads => hplaced (PortUnit.chosenSource_of_leads hlevel hready hleads)
    refine ⟨fun f rest hqueue hfirst => ?_, fun q rest hlevel hqueue hguard hleads => ?_,
      fun f rest hlevel hqueue hleads => ?_, fun hforward hharvest houtput => ?_⟩
    · have hready : x.ready .forward = true := by simp [PortUnit.ready, hqueue]
      have hchosen : x.choose row = x.place row .forward := by
        by_cases hlevel : level
        · exact hplaced (PortUnit.chosenSource_of_atLevel hlevel)
        · exact hled hlevel hready (hfirst.resolve_left hlevel)
      exact exec_transmitChoice_of_choose (hchosen.trans (PortUnit.place_forward hqueue))
    · have hready : x.ready .harvest = true := by simp [PortUnit.ready, PortUnit.harvestReady, hqueue, hguard]
      exact exec_transmitChoice_of_choose ((hled hlevel hready hleads).trans (PortUnit.place_harvest hqueue))
    · have hready : x.ready .management = true := by simp [PortUnit.ready, hqueue]
      exact exec_transmitChoice_of_choose ((hled hlevel hready hleads).trans (PortUnit.place_management hqueue))
    · have hnone : ∀ y, x.ready y = false := fun y => by
        cases y with
        | forward => simp [PortUnit.ready, hforward]
        | harvest =>
          rcases hharvest with h | h <;> simp [PortUnit.ready, PortUnit.harvestReady, Option.isSome_iff_ne_none, h]
        | management => simp [PortUnit.ready, houtput]
      exact exec_transmitChoice_of_unchanged
        (PortUnit.choose_of_no_source (PortUnit.chosenSource_of_none_ready hnone))
  · have hmay : x.mayChoose = false := by
      rcases hbarred with h | h <;> simp [PortUnit.mayChoose, Option.isSome_iff_ne_none, h]
    exact exec_transmitChoice_of_unchanged (PortUnit.choose_of_not_mayChoose hmay)

end Sys2Proof.Machine

/-! PROOFS. What an arrival does to the retention unit, to REC and to the forward queues: O23. -/

namespace Sys2Proof.Machine

variable {s : State} {p : Port}

/-! ### The retention unit and REC (R120, R172, R174) -/

theorem arrivalSeen_eq (s : State) : arrivalSeen s = { s with retention := { s.retention with
    power := if s.retention.power = .saving then .run else s.retention.power
    sleepTimer := if s.retention.power = .saving ∨ s.clock.key = .off then
        .running (1000 * s.general.sleepDelay) else s.retention.sleepTimer } } := by
  have hkey : (abandonSave s).clock.key = s.clock.key := by simp
  simp only [arrivalSeen, hkey]
  by_cases hsaving : s.retention.power = .saving
  · have habandoned : abandonSave s = restartSleep (s.modRetention fun r => { r with power := .run }) := if_pos hsaving
    simp only [habandoned, hsaving, if_true, true_or]
    split <;> rfl
  · have hkept : abandonSave s = s := if_neg hsaving
    simp only [hkept, hsaving, if_false, false_or]
    split <;> rfl

theorem arrivalLowersRec_of_deaf (h : (s.port p).state.serves = false) : arrivalLowersRec s p = s := by
  simp [arrivalLowersRec, h]

theorem arrivalLowersRec_of_serves (h : (s.port p).state.serves = true) :
    arrivalLowersRec s p = changeErrors s p fun u => { u with rxErrors := u.rxErrors - 1 } := if_pos h

/-! ### Forwarding (R129, R133) -/

/-- A change made at each port of a list that satisfies a condition, one port after the other. -/
theorem foldl_modPort_port (c : Port → Prop) [DecidablePred c] (g : PortUnit → PortUnit) (q : Port) {l : List Port}
    (hl : l.Nodup) (s : State) : (l.foldl (fun t r => if c r then t.modPort r g else t) s).port q =
      if q ∈ l ∧ c q then g (s.port q) else s.port q := by
  induction l generalizing s with
  | nil => simp
  | cons r l ih =>
    obtain ⟨hr, hl⟩ := List.nodup_cons.1 hl
    have hhead : (if c r then s.modPort r g else s).port q = if q = r ∧ c q then g (s.port q) else s.port q := by
      by_cases hq : q = r
      · subst hq
        by_cases hc : c q <;> simp [hc]
      · by_cases hc : c r <;> simp [hc, hq]
    rw [List.foldl_cons, ih hl, hhead]
    by_cases hq : q = r
    · subst hq
      simp [hr]
    · simp [hq]

theorem forwardFrame_eq (s : State) (p : Port) (f : Frame) (route : PortSet) :
    forwardFrame s p f route = { s with ports := (forwardFrame s p f route).ports } := by
  obtain ⟨hpending, htables, hstore, hclock, hsurvey, hengine, hsnapshots, hmanagement, hstreamer, hnotice,
    hretention, hchoices⟩ := forwardFrame_frame s p f route
  exact State.eq_of_components hpending htables hstore hclock hsurvey hengine rfl hsnapshots hmanagement hstreamer
    hnotice hretention hchoices

theorem forwardFrame_port (s : State) (p : Port) (f : Frame) (route : PortSet) (q : Port) :
    (forwardFrame s p f route).port q =
      if q ≠ p ∧ route.get q = true then (s.port q).offerForward f else s.port q := by
  have hoffers := foldl_modPort_port (fun r => r ≠ p ∧ route.get r = true) (·.offerForward f) q
    (List.nodup_finRange 3) s
  simp only [List.mem_finRange, true_and] at hoffers
  exact hoffers

/-- Settles O23: the arrival's two effects outside forwarding, and the offer that forwarding makes to each port. -/
theorem arrivalEffectsAtThePorts : Obligations.ArrivalEffectsAtThePorts := by
  refine ⟨fun p s => ⟨arrivalSeen_eq s, arrivalLowersRec_of_deaf, fun hserves => ?_⟩,
    fun s p f route => ⟨forwardFrame_eq s p f route, fun q => ?_⟩⟩
  · rw [arrivalLowersRec_of_serves hserves]
    exact changeErrors_settles (f := fun u => { u with rxErrors := u.rxErrors - 1 }) hserves
  · rw [forwardFrame_port]
    by_cases hoffered : q ≠ p ∧ route.get q = true
    · rw [if_pos hoffered]
      simp only [PortUnit.offerForward, hoffered, true_and, ne_eq, not_false_eq_true]
      rfl
    · rw [if_neg hoffered, if_neg fun h => hoffered ⟨h.1, h.2.1⟩]

end Sys2Proof.Machine

/-! PROOFS. Answers and the frames that a request slot holds: O50. -/

namespace Sys2Proof.Machine

variable {s : State} {p : Port} {b : List Byte} {rest : List (List Byte)}

/-- The free places of a management output queue, none in BUS_OFF or DORMANT (R136). -/
theorem freePlaces_eq (s : State) (p : Port) : s.freePlaces p =
    if (s.port p).state = .busOff ∨ (s.port p).state = .dormant then 0 else 8 - (s.port p).output.length := by
  unfold State.freePlaces PortUnit.freePlaces
  cases (s.port p).state <;> rfl

theorem respond_port (s : State) (p : Port) (frames : List (List Byte)) (q : Port) : (respond s p frames).port q =
    if q = p then { s.port q with
      output := (s.port q).output ++ (frames.take (s.freePlaces p)).map s.managementFrame } else s.port q :=
  State.modPort_port ..

theorem queueHeld_of_held (h : s.management.slot = .waitingOutput p (b :: rest)) : queueHeld s =
    if 0 < s.freePlaces p then
      { s with management := { s.management with
        slot := if rest = [] then .empty else .waitingOutput p rest } }.modPort p fun u =>
          { u with output := u.output ++ [s.managementFrame b] }
    else s := by
  simp only [queueHeld, h]
  rfl

theorem queueHeld_of_not_waiting (h : ∀ p held, s.management.slot ≠ .waitingOutput p held) : queueHeld s = s := by
  cases hslot : s.management.slot with
  | waitingOutput p held => exact absurd hslot (h p held)
  | empty | serving => simp only [queueHeld, hslot]

/-- Settles O50: `respond` and `queueHeld` fill the free places that `State.freePlaces` counts. -/
theorem answersAreQueuedOrHeld : Obligations.AnswersAreQueuedOrHeld := by
  unfold Obligations.AnswersAreQueuedOrHeld
  intro room
  have hroom : ∀ s p, room s p = s.freePlaces p := fun s p => (freePlaces_eq s p).symm
  simp only [hroom]
  refine ⟨fun s p frames => ⟨rfl, fun q hq => ?_, ?_⟩, fun s p b rest hslot => ⟨fun hfree => ?_, fun hfull => ?_⟩,
    fun s hslot => congrArg Host.Outcome.next (queueHeld_of_not_waiting hslot)⟩
  · rw [respond_port, if_neg hq]
  · rw [respond_port, if_pos rfl]
  · exact congrArg Host.Outcome.next ((queueHeld_of_held hslot).trans (if_pos hfree))
  · exact congrArg Host.Outcome.next ((queueHeld_of_held hslot).trans (if_neg (by omega)))

end Sys2Proof.Machine

/-! PROOFS. Which entry holds which snapshot slot, what the slots and rings hold, and what a SNAPSHOT stream plays:
O6. -/

namespace Sys2Proof.Machine

/-! ### The shelf -/

/-- What a SNAPSHOT stream in progress has of its slot (R169). -/
structure Playback where
  slot : SlotNo
  owner : Nat
  total : Nat
  sent : Nat

/-- What a streamer plays: a SNAPSHOT stream in progress whose slot has not been freed (R169). -/
def Streamer.playback (x : Streamer) : Option Playback :=
  if x.state ≠ .idle ∧ x.kind = .snapshot ∧ x.slotLost = false then
    some { slot := x.slot, owner := x.owner, total := x.total, sent := x.sent }
  else none

/-- An entry with the sequence number holds the slot (R144). -/
def Store.Holds (a : Store) (n : Nat) (i : SlotNo) : Prop := ∃ e ∈ a.entries, e.seq = n ∧ e.slot = some i

/-- What R143, R144, R146, R147, R150 and R169 speak of: the slots, the recent rings, which entry holds which slot,
and what a SNAPSHOT stream plays. -/
structure Shelf where
  slot : SlotNo → Slot
  ring : Port → List RingFrame
  holds : Nat → SlotNo → Prop
  plays : Option Playback

/-- The shelf of a state. -/
def State.shelf (s : State) : Shelf where
  slot := s.slot
  ring := s.ring
  holds := s.store.Holds
  plays := s.streamer.playback

@[simp] theorem State.shelf_slot (s : State) (i : SlotNo) : s.shelf.slot i = s.slot i := rfl
@[simp] theorem State.shelf_ring (s : State) (p : Port) : s.shelf.ring p = s.ring p := rfl
@[simp] theorem State.shelf_holds (s : State) (n : Nat) (i : SlotNo) : s.shelf.holds n i ↔ s.store.Holds n i := .rfl
@[simp] theorem State.shelf_plays (s : State) : s.shelf.plays = s.streamer.playback := rfl

/-- Two shelves are the same when they agree field by field. -/
theorem Shelf.eq_of_fields {r r' : Shelf} (slot : ∀ i, r.slot i = r'.slot i := by intros; rfl)
    (ring : ∀ p, r.ring p = r'.ring p := by intros; rfl) (holds : ∀ n i, r.holds n i ↔ r'.holds n i := by intros; rfl)
    (plays : r.plays = r'.plays := by rfl) : r = r' := by
  obtain ⟨⟩ := r
  obtain ⟨⟩ := r'
  rw [Shelf.mk.injEq]
  exact ⟨funext slot, funext ring, funext₂ fun n i => propext (holds n i), plays⟩

/-- A slot by itself is in order: FREE, it is as R144 gives; bound, it has an owner; it holds at most 12 pre frames
and at most its post target; FILLING, it waits for post frames with its timer running (R144, R146, R147). -/
structure Slot.Fit (x : Slot) : Prop where
  freed : x.state = .free → x = Slot.freed
  owned : x.state ≠ .free → x.owner ≠ none
  pre_le : x.pre.length ≤ 12
  target_le : x.target ≤ 4
  post_le : x.post.length ≤ x.target
  filling_iff : x.state = .filling ↔ x.timer.isSome = true
  post_lt : x.state = .filling → x.post.length < x.target

/-- The slot is one that the playback can go on with: its owner's, unread, with the frames that were counted (R169). -/
structure Slot.Plays (x : Slot) (b : Playback) : Prop where
  owner : x.owner = some b.owner
  unread : x.read = false
  total_le : b.total ≤ x.pre.length + x.post.length
  sent_le : b.sent ≤ b.total

/-- Slots and entries are bound one to one, slots and rings are in order, and a stream keeps its slot. -/
structure Shelf.Ok (r : Shelf) : Prop where
  holds_iff : ∀ n i, r.holds n i ↔ (r.slot i).owner = some n
  fit : ∀ i, (r.slot i).Fit
  ring_le : ∀ p, (r.ring p).length ≤ 12
  plays : ∀ b, r.plays = some b → (r.slot b.slot).Plays b

variable {s t : State} {r r' : Shelf} {x y : Slot} {b : Playback} {n : Nat} {i : SlotNo}

theorem Slot.freed_fit : Slot.freed.Fit where
  freed _ := rfl
  owned h := absurd rfl h
  pre_le := Nat.zero_le _
  target_le := Nat.zero_le _
  post_le := le_rfl
  filling_iff := by decide
  post_lt h := nomatch h

/-- A slot is FREE exactly when it has no owner (R144). -/
theorem Slot.Fit.free_iff (h : x.Fit) : x.state = .free ↔ x.owner = none :=
  ⟨fun hfree => h.freed hfree ▸ rfl, fun hnone => by_contra fun hbound => h.owned hbound hnone⟩

theorem Slot.Fit.bound_of_owner (h : x.Fit) (howner : x.owner = some n) : x.state ≠ .free := fun hfree => by
  rw [h.free_iff.1 hfree] at howner
  cases howner

theorem Streamer.playback_eq_some {x : Streamer} : x.playback = some b ↔
    (x.state ≠ .idle ∧ x.kind = .snapshot ∧ x.slotLost = false) ∧
      b = { slot := x.slot, owner := x.owner, total := x.total, sent := x.sent } := by
  unfold Streamer.playback
  split
  · next h => simp only [h, Option.some.injEq, eq_comm, ne_eq, not_false_eq_true, and_self, true_and]
  · next h => simp only [h, reduceCtorEq, false_and]

/-- A streamer that is IDLE plays nothing. -/
theorem Streamer.playback_of_idle {x : Streamer} (h : x.state = .idle) : x.playback = none := by
  simp [Streamer.playback, h]

/-! ### The shelf and the properties of Sys2Proof/Safety.lean -/

/-- The shelf is in order when the slots, the stream and the rings of the state are. -/
theorem shelf_ok_iff : s.shelf.Ok ↔ SlotsOk s ∧ SnapshotStreamOk s ∧ RingsOk s := by
  constructor
  · intro h
    refine ⟨⟨fun i hbound => ?_, fun e he i hi => ?_, fun i => ?_⟩, fun hbusy hkind hkept => ?_, h.ring_le⟩
    · obtain ⟨n, hn⟩ := Option.ne_none_iff_exists'.1 ((h.fit i).owned hbound)
      obtain ⟨e, he, rfl, hslot⟩ := (h.holds_iff n i).2 hn
      exact ⟨e, he, hn, hslot⟩
    · have howner := (h.holds_iff e.seq i).1 ⟨e, he, rfl, hi⟩
      exact ⟨(h.fit i).bound_of_owner howner, howner⟩
    · have hfit := h.fit i
      exact ⟨hfit.freed, hfit.pre_le, hfit.target_le, hfit.post_le, hfit.filling_iff, hfit.post_lt⟩
    · have hplays := h.plays _ (Streamer.playback_eq_some.2 ⟨⟨hbusy, hkind, hkept⟩, rfl⟩)
      exact ⟨(h.fit _).bound_of_owner hplays.owner, hplays.owner, hplays.unread, hplays.total_le, hplays.sent_le⟩
  · rintro ⟨⟨hbound, hheld, hslot⟩, hstream, hrings⟩
    have hfit : ∀ i, (s.slot i).Fit := fun i => by
      obtain ⟨hfreed, hpre, htarget, hpost, hfilling, hlt⟩ := hslot i
      refine ⟨hfreed, fun h hnone => ?_, hpre, htarget, hpost, hfilling, hlt⟩
      obtain ⟨e, -, howner, -⟩ := hbound i h
      rw [hnone] at howner
      cases howner
    refine ⟨fun n i => ⟨?_, fun howner => ?_⟩, hfit, hrings, fun b hb => ?_⟩
    · rintro ⟨e, he, rfl, hi⟩
      exact (hheld e he i hi).2
    · obtain ⟨e, he, howner', hi⟩ := hbound i ((hfit i).bound_of_owner howner)
      exact ⟨e, he, Option.some.inj (howner'.symm.trans howner), hi⟩
    · obtain ⟨⟨hbusy, hkind, hkept⟩, rfl⟩ := Streamer.playback_eq_some.1 hb
      obtain ⟨-, howner, hread, htotal, hsent⟩ := hstream hbusy hkind hkept
      exact ⟨howner, hread, htotal, hsent⟩

theorem State.Inv.shelf_ok (hs : s.Inv) : s.shelf.Ok := shelf_ok_iff.2 ⟨hs.slots, hs.stream, hs.rings⟩

/-! ### Changes of a shelf -/

/-- What a bound slot may become while it stays with its owner: its frames grow and its window ends, and a stream of
it goes on (R147, R169). -/
structure Slot.Advances (x y : Slot) : Prop where
  owner : y.owner = x.owner
  fit : y.Fit
  plays : ∀ b, x.Plays b → y.Plays b

theorem Slot.Fit.advances (h : x.Fit) : x.Advances x := ⟨rfl, h, fun _ => id⟩

/-- Slots advance, rings stay within their size, and no stream is started. -/
theorem Shelf.Ok.advance (h : r.Ok) (hslot : ∀ i, (r.slot i).Advances (r'.slot i))
    (hring : ∀ p, (r'.ring p).length ≤ 12) (hholds : ∀ n i, r'.holds n i ↔ r.holds n i)
    (hplays : ∀ b, r'.plays = some b → r.plays = some b) : r'.Ok where
  holds_iff n i := by rw [hholds, h.holds_iff, (hslot i).owner]
  fit i := (hslot i).fit
  ring_le := hring
  plays b hb := (hslot b.slot).plays b (h.plays b (hplays b hb))

/-- Another stream, or none, of a slot that it can play. -/
theorem Shelf.Ok.withPlays (h : r.Ok) {o : Option Playback} (ho : ∀ b, o = some b → (r.slot b.slot).Plays b) :
    Shelf.Ok { r with plays := o } := { h with plays := ho }

/-- The slot becomes FREE, its entry holds it no longer, and a stream of it has lost it (R150, R169). -/
def Shelf.free (r : Shelf) (i : SlotNo) : Shelf :=
  { r with
    slot := Function.update r.slot i Slot.freed
    holds := fun n j => r.holds n j ∧ j ≠ i
    plays := r.plays.filter fun b => b.slot ≠ i }

theorem Shelf.Ok.free (h : r.Ok) (i : SlotNo) : (r.free i).Ok where
  holds_iff n j := by
    by_cases hj : j = i
    · simp [Shelf.free, hj, Slot.freed]
    · simp [Shelf.free, hj, h.holds_iff]
  fit j := by
    by_cases hj : j = i
    · simpa [Shelf.free, hj] using Slot.freed_fit
    · simpa [Shelf.free, hj] using h.fit j
  ring_le := h.ring_le
  plays b hb := by
    obtain ⟨hb, hne⟩ := Option.filter_eq_some_iff.1 hb
    simpa [Shelf.free, of_decide_eq_true hne] using h.plays b hb

/-- The entry of the number holds the slot, which is as a capture leaves it (R146, R148). -/
def Shelf.capture (r : Shelf) (n : Nat) (i : SlotNo) (x : Slot) : Shelf :=
  { r with
    slot := Function.update r.slot i x
    holds := fun m j => if m = n then j = i else r.holds m j }

/-- A capture into a slot that no other entry owns, for an entry that holds no other slot, while no stream plays the
slot (R146, R148). -/
theorem Shelf.Ok.capture (h : r.Ok) (howner : x.owner = some n) (hfit : x.Fit)
    (hfree : ∀ m, (r.slot i).owner = some m → m = n) (hsole : ∀ j, (r.slot j).owner = some n → j = i)
    (hquiet : ∀ b, r.plays = some b → b.slot ≠ i) : (r.capture n i x).Ok where
  holds_iff m j := by
    by_cases hm : m = n <;> by_cases hj : j = i
    · simp [Shelf.capture, hm, hj, howner]
    · simpa [Shelf.capture, hm, hj] using fun hown => hj (hsole j hown)
    · simpa [Shelf.capture, hm, hj, howner, h.holds_iff, eq_comm (a := n)] using fun hown => hm (hfree m hown)
    · simp [Shelf.capture, hm, hj, h.holds_iff]
  fit j := by
    by_cases hj : j = i
    · simpa [Shelf.capture, hj] using hfit
    · simpa [Shelf.capture, hj] using h.fit j
  ring_le := h.ring_le
  plays b hb := by simpa [Shelf.capture, hquiet b hb] using h.plays b hb

end Sys2Proof.Machine

/-! PROOFS. What each operation of the snapshot unit, the store and the streamer does to the shelf: O6. -/

namespace Sys2Proof.Machine

variable {s t : State} {r : Shelf} {x : Slot} {b : Playback} {n : Nat} {i : SlotNo}

/-! ### Operations that leave the shelf -/

/-- The shelf reads three components of the state. -/
theorem State.shelf_eq (hslots : t.snapshots.slots = s.snapshots.slots) (hrings : t.snapshots.rings = s.snapshots.rings)
    (hholds : ∀ n i, t.store.Holds n i ↔ s.store.Holds n i) (hplays : t.streamer.playback = s.streamer.playback) :
    t.shelf = s.shelf :=
  Shelf.eq_of_fields (fun i => congrArg (·.get i) hslots) (fun p => congrArg (·.get p) hrings) hholds hplays

theorem State.shelf_of_same (hstore : t.store = s.store) (hsnapshots : t.snapshots = s.snapshots)
    (hstreamer : t.streamer = s.streamer) : t.shelf = s.shelf :=
  State.shelf_eq (by rw [hsnapshots]) (by rw [hsnapshots]) (fun _ _ => by rw [hstore]) (by rw [hstreamer])

/-- Entries that are changed in place, each with its number and its slot. -/
theorem modEntries_holds {q : Entry → Bool} {f : Entry → Entry} (hf : ∀ e, (f e).seq = e.seq ∧ (f e).slot = e.slot)
    (n : Nat) (i : SlotNo) : (s.modEntries q f).store.Holds n i ↔ s.store.Holds n i := by
  have hsame : ∀ e, (if q e then f e else e).seq = e.seq ∧ (if q e then f e else e).slot = e.slot := fun e => by
    split
    · exact hf e
    · exact ⟨rfl, rfl⟩
  simp only [Store.Holds, State.modEntries_store, List.mem_map, exists_exists_and_eq_and, hsame]

theorem modEntries_shelf {q : Entry → Bool} {f : Entry → Entry}
    (hf : ∀ e, (f e).seq = e.seq ∧ (f e).slot = e.slot) : (s.modEntries q f).shelf = s.shelf :=
  State.shelf_eq rfl rfl (modEntries_holds hf) rfl

theorem clearSeen_shelf (s : State) (st : StationNo) : (clearSeen s st).shelf = s.shelf :=
  modEntries_shelf fun _ => ⟨rfl, rfl⟩

theorem markGone_shelf (s : State) (st : StationNo) : (markGone s st).shelf = s.shelf :=
  modEntries_shelf fun _ => ⟨rfl, rfl⟩

theorem missCapture_shelf (s : State) (seq : Nat) : (missCapture s seq).shelf = s.shelf :=
  modEntries_shelf fun _ => ⟨rfl, rfl⟩

theorem handOff_shelf (s : State) (seq : Nat) (m : Merge) : (handOff s seq m).shelf = s.shelf := by
  refine State.shelf_eq ?_ ?_ (fun _ _ => by rw [handOff_store]) (by simp) <;> rw [handOff_snapshots]

/-- A new entry holds no slot (R9). -/
theorem createEntry_shelf (s : State) (m : Merge) : (createEntry s m).shelf = s.shelf := by
  rw [createEntry_eq, handOff_shelf]
  refine State.shelf_eq rfl rfl (fun n i => ?_) rfl
  have hnew : ∀ e, e ∈ (s.withNew m).store.entries ↔ e ∈ s.store.entries ∨ e = newEntry s.store.nextSeq m s.clock.c
      s.clock.k := fun e => by simp [State.withNew]
  have hnone : (newEntry s.store.nextSeq m s.clock.c s.clock.k).slot = none := rfl
  simp [Store.Holds, hnew, or_and_right, exists_or, hnone]

/-! ### Freed slots -/

/-- The playback of a slot that is freed is lost, every other goes on (R169). -/
theorem Streamer.loseSlot_playback (x : Streamer) (i : SlotNo) :
    (x.loseSlot i).playback = x.playback.filter fun b => b.slot ≠ i := by
  unfold Streamer.loseSlot
  split
  · next h =>
    obtain ⟨-, -, hi⟩ := h
    have hlost : Streamer.playback { x with slotLost := true } = none := by simp [Streamer.playback]
    rw [hlost, eq_comm, Option.filter_eq_none_iff]
    rintro b hb
    obtain ⟨-, rfl⟩ := Streamer.playback_eq_some.1 hb
    simp [hi]
  · next h =>
    unfold Streamer.playback
    split
    · next hplays =>
      have hne : x.slot ≠ i := fun hi => h ⟨hplays.1, hplays.2.1, hi⟩
      simp [Option.filter, hne]
    · rfl

theorem freeSlot_shelf (s : State) (i : SlotNo) : (freeSlot s i).shelf = s.shelf.free i := by
  refine Shelf.eq_of_fields (slot := fun j => ?_) (holds := fun n j => ?_) (plays := s.streamer.loseSlot_playback i)
  · simp [freeSlot, Shelf.free, Function.update_apply]
  · have hfreed : ∀ e : Entry, (if e.slot = some i then { e with slot := none } else e).seq = e.seq ∧
        ((if e.slot = some i then { e with slot := none } else e).slot = some j ↔ e.slot = some j ∧ j ≠ i) := fun e => by
      split
      · next h => simp [h, eq_comm (a := i)]
      · next h => exact ⟨rfl, fun hj => ⟨hj, fun hji => h (hji ▸ hj)⟩, And.left⟩
    have hstore : (freeSlot s i).store.Holds n j ↔ ∃ e ∈ s.store.entries, e.seq = n ∧ e.slot = some j ∧ j ≠ i := by
      simp [freeSlot, Store.Holds, hfreed]
    rw [State.shelf_holds, hstore]
    simp only [Shelf.free, State.shelf_holds, Store.Holds, ← exists_and_right, and_assoc]

theorem freeSlotOf_shelf_ok (h : s.shelf.Ok) (e : Entry) : (freeSlotOf s e).shelf.Ok := by
  unfold freeSlotOf
  split
  · rw [freeSlot_shelf]
    exact h.free _
  · exact h

theorem foldl_freeSlotOf_shelf_ok (l : List Entry) (h : s.shelf.Ok) : (l.foldl freeSlotOf s).shelf.Ok := by
  induction l generalizing s with
  | nil => exact h
  | cons e l ih => exact ih (freeSlotOf_shelf_ok h e)

/-- Once their slots are freed, the entries that are removed hold none (R11, R19, R20, R150). -/
theorem removeEntries_shelf_ok (h : s.shelf.Ok) (q : Entry → Bool) : (removeEntries s q).shelf.Ok := by
  set freed := s.store.entries.filter q with hfreed
  have hslots := foldl_freeSlotOf_shelf_ok freed h
  suffices hsame : (removeEntries s q).shelf = (freed.foldl freeSlotOf s).shelf by rwa [hsame]
  refine State.shelf_eq rfl rfl (fun n i => ?_) rfl
  have hbare : ∀ e ∈ (freed.foldl freeSlotOf s).store.entries, q e = true → e.slot = none := by
    rw [foldl_freeSlotOf_store]
    intro e' he' hqe
    obtain ⟨e, he, rfl⟩ := List.mem_map.1 he'
    unfold Entry.unbound at hqe ⊢
    split at hqe
    · next hmem => rw [if_pos hmem]
    · next hmem => exact absurd (List.mem_map_of_mem (hfreed ▸ List.mem_filter.2 ⟨he, hqe⟩)) hmem
  simp only [removeEntries, Store.Holds, State.modStore_store, List.mem_filter, Bool.not_eq_true']
  refine exists_congr fun e => ⟨fun ⟨⟨he, _⟩, hrest⟩ => ⟨he, hrest⟩, fun ⟨he, hseq, hi⟩ => ⟨⟨he, ?_⟩, hseq, hi⟩⟩
  refine Bool.eq_false_iff.2 fun hqe => ?_
  rw [hbare e he hqe] at hi
  cases hi

/-! ### Merges and CLEAR -/

/-- A merge leaves the shelf in order: an entry keeps its slot, or a victim's slot is freed (R8 to R12). -/
theorem takeMerge_shelf_ok (h : s.shelf.Ok) (m : Merge) : (takeMerge s m).shelf.Ok := by
  have hcreate : ∀ {u : State}, u.shelf.Ok → (createEntry u m).shelf.Ok := fun hu => by rwa [createEntry_shelf]
  have hevict : ∀ v, (evict s v).shelf.Ok := fun v => removeEntries_shelf_ok h _
  have hmerge : ∀ {q : Entry → Bool}, (s.modEntries q fun x => mergedEntry x m s.clock.c s.clock.k).shelf.Ok := by
    intro q
    rwa [modEntries_shelf (f := fun x => mergedEntry x m s.clock.c s.clock.k) fun _ => ⟨rfl, rfl⟩]
  unfold takeMerge newKeyMerge
  dsimp only
  (repeat' split)
  · exact h
  · exact hcreate h
  · exact hcreate h
  · exact hcreate (hevict _)
  · exact h
  · rw [handOff_shelf]
    exact hmerge
  · exact hmerge

theorem clearStation_shelf_ok (h : s.shelf.Ok) (st : StationNo) : (clearStation s st).shelf.Ok :=
  removeEntries_shelf_ok h _

theorem clearStore_shelf_ok (h : s.shelf.Ok) : (clearStore s).shelf.Ok :=
  removeEntries_shelf_ok h _

/-! ### Captures -/

theorem captured_fit {row : StationRow} {ring : List RingFrame} (hpost : row.postCount ≤ 4) (hring : ring.length ≤ 12) :
    (captured n row ring).Fit := by
  by_cases hfills : row.postCount ≠ 0 ∧ row.postWindow ≠ 0
  · have hpos := Nat.pos_of_ne_zero hfills.1
    constructor <;> simp [captured, hfills, hpost, hring, hpos]
  · constructor <;> simp [captured, hfills, hpost, hring]

theorem captureInto_shelf (hn : ∃ e ∈ s.store.entries, e.seq = n) (row : StationRow) (i : SlotNo) :
    (captureInto s n row i).shelf = s.shelf.capture n i (captured n row (s.ring row.homePort)) := by
  obtain ⟨e₀, he₀, hseq₀⟩ := hn
  refine Shelf.eq_of_fields (slot := fun j => ?_) (holds := fun m j => ?_)
  · simp [captureInto, Shelf.capture, Function.update_apply]
  · have hcaught : ∀ e : Entry, (if e.seq = n then { e with slot := some i, missed := false } else e).seq = e.seq ∧
        (if e.seq = n then { e with slot := some i, missed := false } else e).slot =
          if e.seq = n then some i else e.slot := fun e => by split <;> exact ⟨rfl, rfl⟩
    have hstore : (captureInto s n row i).store.Holds m j ↔
        ∃ e ∈ s.store.entries, e.seq = m ∧ (if e.seq = n then some i else e.slot) = some j := by
      simp [captureInto, Store.Holds, hcaught]
    rw [State.shelf_holds, hstore]
    by_cases hm : m = n
    · subst hm
      simp only [Shelf.capture, if_true, eq_comm (a := j)]
      refine ⟨fun ⟨e, _, hseq, hi⟩ => ?_, fun hij => ⟨e₀, he₀, hseq₀, by rw [if_pos hseq₀, hij]⟩⟩
      rw [if_pos hseq] at hi
      exact Option.some.inj hi
    · simp only [Shelf.capture, if_neg hm, State.shelf_holds, Store.Holds]
      refine exists_congr fun e => and_congr_right fun _ => and_congr_right fun hseq => ?_
      rw [if_neg (hseq ▸ hm)]

/-- The entry that a sequence number names. -/
theorem mem_of_entry {e : Entry} (h : s.entry n = some e) : e ∈ s.store.entries ∧ e.seq = n :=
  ⟨List.mem_of_find?_eq_some h, of_decide_eq_true (List.find?_some h :)⟩

/-- The slot that an entry of a store in order holds is that of its field. -/
theorem Store.Holds.slot_eq (h : s.store.Holds n i) (hok : s.store.Ok) {e : Entry} (he : e ∈ s.store.entries)
    (hseq : e.seq = n) : e.slot = some i := by
  obtain ⟨e', he', hseq', hi⟩ := h
  rwa [hok.eq_of_seq he he' (hseq.trans hseq'.symm)]

/-- The slot that a capture finds FREE is FREE (R146). -/
theorem freeSlotNo_free (h : s.freeSlotNo = some i) : (s.slot i).state = .free :=
  of_decide_eq_true (List.find?_some h :)

/-- A capture trigger takes a FREE slot for an entry without one, or the read slot of its own (R145, R146, R148). -/
theorem takeTrigger_shelf_ok (h : s.shelf.Ok) (hok : s.store.Ok) (hposts : ∀ st, (s.stationRow st).postCount ≤ 4)
    (tr : Trigger) : (takeTrigger s tr).shelf.Ok := by
  have hmissed : (missCapture s tr.seq).shelf.Ok := by rwa [missCapture_shelf]
  unfold takeTrigger
  dsimp only
  split
  swap
  · exact h
  split
  · exact h
  next e hentry =>
  obtain ⟨he, hseq⟩ := mem_of_entry hentry
  have hheld : ∀ j, (s.slot j).owner = some tr.seq → e.slot = some j := fun j hj =>
    ((h.holds_iff tr.seq j).2 hj).slot_eq hok he hseq
  have hfit := captured_fit (n := tr.seq) (hposts tr.station) (h.ring_le (s.stationRow tr.station).homePort)
  split
  · next i hi =>
    split
    · next hread =>
      have hown : (s.slot i).owner = some tr.seq := (h.holds_iff tr.seq i).1 ⟨e, he, hseq, hi⟩
      rw [captureInto_shelf ⟨e, he, hseq⟩]
      refine h.capture rfl hfit (fun m hm => ?_) (fun j hj => ?_) (fun b hb hbi => ?_)
      · exact Option.some.inj (hm.symm.trans hown)
      · exact Option.some.inj ((hheld j hj).symm.trans hi)
      · have hunread := (h.plays b hb).unread
        rw [hbi, State.shelf_slot, hread] at hunread
        cases hunread
    · exact hmissed
  · next hnone =>
    split
    · next i hi =>
      have hbare : (s.slot i).owner = none := (h.fit i).free_iff.1 (freeSlotNo_free hi)
      rw [captureInto_shelf ⟨e, he, hseq⟩]
      refine h.capture rfl hfit (fun m hm => ?_) (fun j hj => ?_) (fun b hb hbi => ?_)
      · rw [State.shelf_slot, hbare] at hm
        cases hm
      · have hslot := hheld j hj
        rw [hnone] at hslot
        cases hslot
      · have howner := (h.plays b hb).owner
        rw [hbi, State.shelf_slot, hbare] at howner
        cases howner
    · exact hmissed

/-! ### Recent rings and post frames -/

theorem pushRing_length_le {ring : List RingFrame} (h : ring.length ≤ 12) (x : RingFrame) :
    (pushRing ring x).length ≤ 12 := by
  rw [pushRing_eq]
  split
  · simpa
  · simpa using by omega

/-- A FILLING slot that becomes COMPLETE with the post frames it then holds (R147). -/
theorem Slot.Fit.completed (h : x.Fit) (hfilling : x.state = .filling) {post : List RingFrame}
    (hpost : post.length ≤ x.target) : Slot.Fit { x with post := post, state := .complete, timer := none } where
  freed hfree := nomatch hfree
  owned _ := h.owned (by simp [hfilling])
  pre_le := h.pre_le
  target_le := h.target_le
  post_le := hpost
  filling_iff := by simp
  post_lt hfilling := nomatch hfilling

theorem Slot.Fit.offer (h : x.Fit) (p : Port) (f : RingFrame) : x.Advances (x.offer p f) := by
  rw [Slot.offer_eq]
  split
  swap
  · exact h.advances
  next hfilling =>
  have hlt := h.post_lt hfilling.1
  have hplays : ∀ b, x.Plays b → b.total ≤ x.pre.length + (x.post ++ [f]).length := fun b hb =>
    hb.total_le.trans (by simp)
  split
  · next hroom =>
    refine ⟨rfl, { h with freed := fun hfree => ?_, post_le := ?_, post_lt := fun _ => ?_ },
      fun b hb => { hb with total_le := hplays b hb }⟩
    · rw [hfilling.1] at hfree
      cases hfree
    · simpa using hroom.le
    · simpa using hroom
  · have hpost : (x.post ++ [f]).length ≤ x.target := by simpa using hlt
    exact ⟨rfl, h.completed hfilling.1 hpost, fun b hb => { hb with total_le := hplays b hb }⟩

theorem enterRing_shelf_ok (h : s.shelf.Ok) (p : Port) (f : RingFrame) : (enterRing s p f).shelf.Ok := by
  refine h.advance (fun i => ?_) (fun q => ?_) (fun _ _ => .rfl) fun _ => id
  · rw [State.shelf_slot, State.shelf_slot, enterRing_slot]
    exact (h.fit i).offer p f
  · rw [State.shelf_ring, enterRing_ring]
    split
    · exact pushRing_length_le (h.ring_le q) f
    · exact h.ring_le q

/-- The ring entry of an arrival, with the capture that may come before it (R143, R149). -/
theorem ringStep_shelf_ok (h : s.shelf.Ok) (hok : s.store.Ok) (hposts : ∀ st, (s.stationRow st).postCount ≤ 4)
    (before : Nat) (p : Port) (f : RingFrame) : (ringStep s before p f).shelf.Ok := by
  have hnewest : (takeNewestTrigger s.choose).shelf.Ok := by
    unfold takeNewestTrigger
    split
    · exact h
    · next tr _ =>
      exact takeTrigger_shelf_ok (s := s.choose.modSnapshots fun u => { u with triggers := u.triggers.dropLast })
        h hok hposts tr
  unfold ringStep
  (repeat' split)
  · exact enterRing_shelf_ok hnewest p f
  · exact enterRing_shelf_ok (s := s.choose) h p f
  · exact enterRing_shelf_ok h p f

/-! ### Post windows -/

theorem Slot.Fit.finish (h : x.Fit) : x.Advances x.finish := by
  unfold Slot.finish
  split
  · next hfilling => exact ⟨rfl, h.completed hfilling h.post_le, fun _ hb => { hb with }⟩
  · exact h.advances

theorem finishSlots_shelf_ok (h : s.shelf.Ok) : (finishSlots s).shelf.Ok := by
  refine h.advance (fun i => ?_) h.ring_le (fun _ _ => .rfl) fun _ => id
  have hslot : (finishSlots s).slot i = (s.slot i).finish := mapAll_get ..
  rw [State.shelf_slot, State.shelf_slot, hslot]
  exact (h.fit i).finish

theorem modSlot_finish_shelf_ok (h : s.shelf.Ok) (i : SlotNo) : (s.modSlot i Slot.finish).shelf.Ok := by
  refine h.advance (fun j => ?_) h.ring_le (fun _ _ => .rfl) fun _ => id
  rw [State.shelf_slot, State.shelf_slot, State.modSlot_slot]
  split
  · exact (h.fit j).finish
  · exact (h.fit j).advances

theorem emptyRings_shelf_ok (h : s.shelf.Ok) : (emptyRings s).shelf.Ok := by
  refine h.advance (fun i => (h.fit i).advances) (fun p => ?_) (fun _ _ => .rfl) fun _ => id
  simp [emptyRings, State.ring, Vector.get_eq_getElem]

/-- A millisecond of a slot's post window (R55, R147). -/
theorem Slot.Fit.tick (h : x.Fit) : x.Advances { x with timer := tickTimer x.timer } := by
  have hsome : (tickTimer x.timer).isSome = x.timer.isSome := Option.isSome_map
  refine ⟨rfl, { h with freed := fun hfree => ?_, filling_iff := by rw [hsome]; exact h.filling_iff },
    fun _ hb => { hb with }⟩
  rw [h.freed hfree]
  rfl

theorem passMillisecond_shelf_ok (h : s.shelf.Ok) : (passMillisecond s).shelf.Ok := by
  unfold passMillisecond
  dsimp only
  split
  · exact h
  · refine h.advance (fun i => ?_) h.ring_le (fun _ _ => .rfl) fun _ => id
    have hslot : (runTimers (s.modClock Clock.millisecond)).slot i =
        { s.slot i with timer := tickTimer (s.slot i).timer } := mapAll_get ..
    rw [State.shelf_slot, State.shelf_slot, hslot]
    exact (h.fit i).tick

end Sys2Proof.Machine

/-! PROOFS. Dialogues, key events and arrivals keep the shelf and the post targets of the station rows: O6. -/

namespace Sys2Proof.Machine

variable {s t : State} {c : ContextNo} {d : Dialogue} {p : Port}

/-! ### Dialogues and the shelf -/

theorem closeDialogue_shelf (s : State) (c : ContextNo) (o : Closing) : (closeDialogue s c o).shelf = s.shelf := by
  by_cases ho : o = .complete
  · subst ho
    unfold closeDialogue
    split
    · rfl
    · next d _ =>
      rw [← markGone_shelf s d.station]
      apply State.shelf_of_same <;> simp [markGone]
  · exact State.shelf_of_same (closeDialogue_store ho) (by simp) (by simp)

theorem acceptHeader_shelf (s : State) (c : ContextNo) (d : Dialogue) (n : Nat) :
    (acceptHeader s c d n).shelf = s.shelf := by
  unfold acceptHeader
  dsimp only
  split
  · exact closeDialogue_shelf _ c .complete
  · rfl

theorem restartPass_shelf (s : State) (c : ContextNo) (d : Dialogue) (n : Nat) :
    (restartPass s c d n).shelf = s.shelf := by
  rw [← clearSeen_shelf s d.station]
  apply State.shelf_of_same <;> simp [restartPass]

theorem takeHeader_shelf (s : State) (c : ContextNo) (d : Dialogue) (n : Nat) :
    (takeHeader s c d n).shelf = s.shelf := by
  unfold takeHeader
  (repeat' split)
  · exact closeDialogue_shelf s c .short
  · exact acceptHeader_shelf s c d n
  · exact (acceptHeader_shelf _ c d n).trans (clearSeen_shelf s d.station)
  · exact acceptHeader_shelf s c d n
  · exact restartPass_shelf s c d n

theorem afterAdvance_shelf (s : State) (c : ContextNo) : (afterAdvance s c).shelf = s.shelf := by
  unfold afterAdvance
  (repeat' split)
  · rfl
  · exact closeDialogue_shelf s c .complete
  · exact State.shelf_of_same (windowBoundary_store s c _) (by simp) (by simp)
  · rfl

theorem acceptRecord_shelf_ok (h : s.shelf.Ok) (c : ContextNo) (d : Dialogue) (r : FaultReport) :
    (acceptRecord s c d r).shelf.Ok := by
  unfold acceptRecord
  dsimp only
  have hmerged := takeMerge_shelf_ok h (r.merge d.station .readback)
  set merged := takeMerge s (r.merge d.station .readback)
  rw [afterAdvance_shelf, State.shelf_of_same (s := merged) (by simp) (by simp) (by simp)]
  exact hmerged

theorem takeRecord_shelf_ok (h : s.shelf.Ok) (c : ContextNo) (d : Dialogue) (index : Nat) (r : FaultReport) :
    (takeRecord s c d index r).shelf.Ok := by
  unfold takeRecord
  (repeat' split)
  · exact h
  · exact acceptRecord_shelf_ok h c d r
  · rwa [State.shelf_of_same (retryPoint_store s c) (by simp) (by simp)]

/-! ### Post targets -/

/-- The post targets of the station rows in force, and that of a pending one, are at most 4 (Table 4.1). -/
structure State.PostsFit (s : State) : Prop where
  row : ∀ st, (s.stationRow st).postCount ≤ 4
  pending : ∀ st row, s.management.pendingCommit = some (.station st row) → row.postCount ≤ 4

theorem StationRow.postCount_le {row : StationRow} {k : Nat} (h : row.ok k = true) : row.postCount ≤ 4 := by
  simp only [StationRow.ok, inRange, Bool.and_eq_true, decide_eq_true_eq] at h
  omega

theorem TablesOk.postsFit (h : TablesOk s) : s.PostsFit := by
  obtain ⟨⟨hrows, -⟩, -, hpending⟩ := h
  exact ⟨fun st => StationRow.postCount_le (hrows st), fun st row hrow => StationRow.postCount_le (hpending _ hrow)⟩

theorem State.PostsFit.of_same (h : s.PostsFit) (hrows : t.tables = s.tables)
    (hpending : t.management.pendingCommit = s.management.pendingCommit) : t.PostsFit where
  row st := by rw [State.stationRow_eq hrows]; exact h.row st
  pending st row hrow := h.pending st row (hpending ▸ hrow)

theorem applyStationRow_postsFit (h : s.PostsFit) (st : StationNo) {row : StationRow} (hrow : row.postCount ≤ 4) :
    (applyStationRow s st row).PostsFit where
  row st' := by
    have hget := modifyAt_get s.tables.stations st st' fun _ => row
    rw [State.stationRow, applyStationRow_tables]
    refine (congrArg StationRow.postCount hget).trans_le ?_
    split
    · exact hrow
    · exact h.row st'
  pending st' row' hrow' := h.pending st' row' (by simpa using hrow')

theorem releasePending_postsFit (h : s.PostsFit) : (releasePending s).PostsFit := by
  unfold releasePending
  (repeat' split)
  · exact h
  · exact h
  · next pc hpc _ =>
    have hreleased : (s.modManagement fun m => { m with pendingCommit := none }).PostsFit :=
      ⟨h.row, fun _ _ hnone => nomatch hnone⟩
    cases pc with
    | station n row => exact applyStationRow_postsFit hreleased n (h.pending n row hpc)
    | format n row => exact ⟨hreleased.row, hreleased.pending⟩

theorem closeDialogue_postsFit (h : s.PostsFit) (c : ContextNo) (o : Closing) : (closeDialogue s c o).PostsFit := by
  cases hd : s.context c with
  | none => simpa only [closeDialogue, hd] using h
  | some d =>
    have hreleased : (s.released c d o).PostsFit :=
      h.of_same (s.released_tables c d o) (by rw [s.released_management])
    rw [closeDialogue_eq_released hd]
    exact (releasePending_postsFit hreleased).of_same (by simp) (by simp)

theorem cutAll_postsFit (h : s.PostsFit) : (cutAll s).PostsFit := by
  unfold cutAll
  induction allContexts generalizing s with
  | nil => exact h
  | cons c l ih => exact ih (closeDialogue_postsFit h c .cut)

theorem retryPoint_postsFit (h : s.PostsFit) (c : ContextNo) : (retryPoint s c).PostsFit := by
  unfold retryPoint
  (repeat' split)
  · exact h
  · exact closeDialogue_postsFit h c .abandoned
  · exact closeDialogue_postsFit h c .suspended
  · exact h.of_same (by simp) (by simp)

theorem acceptHeader_postsFit (h : s.PostsFit) (c : ContextNo) (d : Dialogue) (n : Nat) :
    (acceptHeader s c d n).PostsFit := by
  unfold acceptHeader
  dsimp only
  split
  · exact closeDialogue_postsFit (s := s.setContext c _) ⟨h.row, h.pending⟩ c .complete
  · exact ⟨h.row, h.pending⟩

theorem takeHeader_postsFit (h : s.PostsFit) (c : ContextNo) (d : Dialogue) (n : Nat) :
    (takeHeader s c d n).PostsFit := by
  unfold takeHeader
  (repeat' split)
  · exact closeDialogue_postsFit h c .short
  · exact acceptHeader_postsFit h c d n
  · exact acceptHeader_postsFit (s := clearSeen s d.station) ⟨h.row, h.pending⟩ c d n
  · exact acceptHeader_postsFit h c d n
  · exact h.of_same (by simp) (by simp)

theorem afterAdvance_postsFit (h : s.PostsFit) (c : ContextNo) : (afterAdvance s c).PostsFit := by
  unfold afterAdvance
  (repeat' split)
  · exact h
  · exact closeDialogue_postsFit h c .complete
  · unfold windowBoundary
    dsimp only
    split
    · exact closeDialogue_postsFit (s := s.setContext c _) ⟨h.row, h.pending⟩ c .suspended
    · exact h.of_same (by simp) (by simp)
  · exact h

theorem takeRecord_postsFit (h : s.PostsFit) (c : ContextNo) (d : Dialogue) (index : Nat) (r : FaultReport) :
    (takeRecord s c d index r).PostsFit := by
  unfold takeRecord
  (repeat' split)
  · exact h
  · exact afterAdvance_postsFit (h.of_same (by simp) (by simp)) c
  · exact retryPoint_postsFit h c

theorem startGrace_postsFit (h : s.PostsFit) : (startGrace s).PostsFit := by
  unfold startGrace
  split
  · exact cutAll_postsFit (s := s.modSurvey fun v => { v with grace := none }) ⟨h.row, h.pending⟩
  · exact ⟨h.row, h.pending⟩

theorem keyOffEvent_postsFit (h : s.PostsFit) : (keyOffEvent s).PostsFit := by
  have hoff : ∀ u : State, u.tables = s.tables → u.management = s.management →
      (restartSleep (startGrace (flushDue u))).PostsFit := fun u htables hmanagement =>
    (startGrace_postsFit (h.of_same (t := flushDue u) (by simpa) (by simp [hmanagement]))).of_same (by simp) (by simp)
  unfold keyOffEvent surveyKeyOff
  dsimp only
  split <;> exact hoff _ rfl rfl

theorem takeKey_postsFit (h : s.PostsFit) (p : Port) (row : IdentRow) (data : List Byte) :
    (takeKey s p row data).PostsFit := by
  unfold takeKey keyValue applyReading
  dsimp only
  (repeat' split)
  · exact h
  · exact h.of_same (by simp) (by simp)
  · exact (keyOffEvent_postsFit h).of_same (by simp) (by simp)
  · exact h.of_same (by simp) (by simp)
  · exact h.of_same (by simp) (by simp)
  · exact h.of_same (by simp) (by simp)

theorem takeRequest_pendingCommit (s : State) (p : Port) (data : List Byte) :
    (takeRequest s p data).management.pendingCommit = s.management.pendingCommit := by
  unfold takeRequest
  (repeat' split) <;> rfl

/-! ### Arrivals -/

theorem takeReply_kept {P : State → Prop} (hcount : P (countStray s p)) (hmalformed : P (countMalformed s p))
    (hheader : ∀ c d n, P (takeHeader s c d n)) (hrecord : ∀ c d i r, P (takeRecord s c d i r)) (row : IdentRow)
    (data : List Byte) : P (takeReply s p row data) := by
  unfold takeReply giveReply
  (repeat' split)
  · exact hmalformed
  · exact hcount
  · exact hcount
  · exact hheader _ _ _
  · exact hrecord _ _ _ _
  all_goals exact hcount

theorem handOn_shelf_ok (h : s.shelf.Ok) (p : Port) (f : Frame) (row : IdentRow) : (handOn s p f row).shelf.Ok := by
  have hsame : ∀ {t : State}, t.shelf = s.shelf → t.shelf.Ok := fun ht => ht ▸ h
  unfold handOn
  split
  · exact h
  cases row.cls with
  | pass => exact h
  | announce =>
    unfold takeAnnouncement
    dsimp only
    split
    · exact takeMerge_shelf_ok h _
    · exact h
  | reply =>
    exact takeReply_kept (P := fun t => t.shelf.Ok) h h (fun c d n => hsame (takeHeader_shelf s c d n))
      (takeRecord_shelf_ok h) row f.data
  | key => exact hsame (State.shelf_of_same (by simp) (by simp) (by simp))
  | time => exact hsame (State.shelf_of_same (by simp) (by simp) (by simp))
  | manage => exact hsame (State.shelf_of_same (by simp) (by simp) (by simp))

theorem handOn_postsFit (h : s.PostsFit) (p : Port) (f : Frame) (row : IdentRow) : (handOn s p f row).PostsFit := by
  unfold handOn
  split
  · exact h
  cases row.cls with
  | pass => exact h
  | announce =>
    unfold takeAnnouncement
    dsimp only
    split
    · exact h.of_same (by simp) (by simp)
    · exact ⟨h.row, h.pending⟩
  | reply =>
    exact takeReply_kept ⟨h.row, h.pending⟩ ⟨h.row, h.pending⟩ (takeHeader_postsFit h) (takeRecord_postsFit h) row f.data
  | key => exact takeKey_postsFit h p row f.data
  | time => exact h.of_same (by simp) (by simp)
  | manage =>
    unfold takeManage
    dsimp only
    split
    · exact h.of_same (by simp) (takeRequest_pendingCommit s p _)
    · exact h

/-- An arrival is handed on to a store in order, and may then capture and enter its ring (R129). -/
theorem takeArrival_shelf_ok (h : s.shelf.Ok) (htables : s.tables.Ok) (hok : s.store.Ok) (hposts : s.PostsFit)
    (p : Port) (f : Frame) : (takeArrival s p f).shelf.Ok := by
  cases hclass : s.classify p f with
  | none =>
    rw [takeArrival_of_no_match hclass, State.shelf_of_same (s := s) (by simp [State.heard]) (by simp [State.heard])
      (by simp [State.heard])]
    exact h
  | some row =>
    rw [takeArrival_of_row hclass]
    dsimp only
    set sent := if row.cls = .manage then s.heard p else forwardFrame (s.heard p) p f row.route with hsent
    have htables' : sent.tables = s.tables := by rw [hsent]; split <;> simp [State.heard]
    have hstore' : sent.store = s.store := by rw [hsent]; split <;> simp [State.heard]
    have hmanagement : sent.management = s.management := by rw [hsent]; split <;> simp [State.heard]
    have hsnapshots : sent.snapshots = s.snapshots := by rw [hsent]; split <;> simp [State.heard]
    have hstreamer : sent.streamer = s.streamer := by rw [hsent]; split <;> simp [State.heard]
    have hgiven : (handOn sent p f row).shelf.Ok :=
      handOn_shelf_ok (State.shelf_of_same hstore' hsnapshots hstreamer ▸ h) p f row
    have hposts' : (handOn sent p f row).PostsFit :=
      handOn_postsFit (hposts.of_same htables' (by rw [hmanagement])) p f row
    have hok' : (handOn sent p f row).store.Ok := by
      rw [← hstore'] at hok
      exact (handOn_evolves (M := Merge.InRange) (G := fun _ => True)
        (fun m hm => (htables' ▸ hm).merge_inRange htables) hok.length_le fun _ _ _ => trivial).ok (fun _ => id) hok
    split
    · exact ringStep_shelf_ok hgiven hok' hposts'.row _ p _
    · exact hgiven

end Sys2Proof.Machine

/-! PROOFS. Streams, ports that leave the bus, power and requests keep the shelf in order: O6. -/

namespace Sys2Proof.Machine

variable {s t : State} {p : Port} {x : Slot} {b : Playback}

/-! ### Streams -/

/-- Whatever was played before, nothing is played now (R167, R168). -/
theorem State.shelf_ok_of_silent (h : s.shelf.Ok) (hstore : t.store = s.store) (hsnapshots : t.snapshots = s.snapshots)
    (hsilent : t.streamer.playback = none) : t.shelf.Ok := by
  refine h.advance (fun i => ?_) (fun q => ?_) (fun n i => ?_) fun b hb => ?_
  · rw [State.shelf_slot, State.shelf_slot, State.slot_eq hsnapshots]
    exact (h.fit i).advances
  · rw [State.shelf_ring, State.ring_eq hsnapshots]
    exact h.ring_le q
  · rw [State.shelf_holds, State.shelf_holds, hstore]
  · rw [State.shelf_plays, hsilent] at hb
    cases hb

theorem State.shelf_ok_of_idle (h : s.shelf.Ok) (hstore : t.store = s.store) (hsnapshots : t.snapshots = s.snapshots)
    (hidle : t.streamer.state = .idle) : t.shelf.Ok :=
  State.shelf_ok_of_silent h hstore hsnapshots (Streamer.playback_of_idle hidle)

/-- A stream that pauses or resumes plays on (R168). -/
theorem pauseStream_shelf (s : State) (p : Port) : (pauseStream s p).shelf = s.shelf := by
  refine State.shelf_eq rfl rfl (fun _ _ => .rfl) ?_
  rw [pauseStream_streamer]
  split
  · next h => simp [Streamer.playback, h.1]
  · rfl

theorem resumeStream_shelf (s : State) (p : Port) : (resumeStream s p).shelf = s.shelf := by
  refine State.shelf_eq rfl rfl (fun _ _ => .rfl) ?_
  simp only [resumeStream, State.modStreamer_streamer]
  split
  · next h => simp [Streamer.playback, h.1]
  · rfl

/-- An ENTRIES stream plays no slot. -/
theorem Streamer.playback_of_entries {y : Streamer} (h : y.kind = .entries) : y.playback = none := by
  simp [Streamer.playback, h]

theorem State.kind_of_streams {k : StreamKind} (h : s.streams k = true) :
    s.streamer.state = .streaming ∧ s.streamer.kind = k := by
  simp only [State.streams, Bool.and_eq_true, decide_eq_true_eq] at h
  exact h.1

theorem exportEntry_shelf (hkind : s.streamer.kind = .entries) (e : Entry) : (exportEntry s e).shelf = s.shelf := by
  have hsent : ((queueOutput s s.streamer.port [s.managementFrame (entryFrameA e), s.managementFrame (entryFrameB e)]
      ).modStreamer fun y => { y with cursor := e.seq + 1, sent := sat16 y.sent 1 }).shelf = s.shelf := by
    refine State.shelf_eq rfl rfl (fun _ _ => .rfl) ?_
    rw [Streamer.playback_of_entries hkind]
    exact Streamer.playback_of_entries hkind
  unfold exportEntry
  dsimp only
  split
  · exact (modEntries_shelf (f := fun y => { y with changed := false }) fun _ => ⟨rfl, rfl⟩).trans hsent
  · exact hsent

theorem lookExport_shelf_ok (h : s.shelf.Ok) : (lookExport s).shelf.Ok := by
  unfold lookExport
  (repeat' split)
  · next hstreams _ _ e _ => rwa [exportEntry_shelf (State.kind_of_streams hstreams).2]
  · exact State.shelf_ok_of_idle h (endExport_store s) (by simp) rfl
  · exact h
  · exact h

/-- A bound slot's read flag changes (R152, R169). -/
theorem Slot.Fit.withRead (h : x.Fit) (howner : x.owner ≠ none) (read : Bool) : Slot.Fit { x with read := read } :=
  { h with freed := fun hfree => absurd (h.free_iff.1 hfree) howner }

/-- The read flag of a slot that nothing plays changes. -/
theorem modSlot_read_shelf_ok (h : s.shelf.Ok) {i : SlotNo} (howner : (s.slot i).owner ≠ none)
    (hquiet : ∀ b, s.streamer.playback = some b → b.slot ≠ i) (read : Bool) :
    (s.modSlot i fun y => { y with read := read }).shelf.Ok := by
  have hslot : ∀ j, (s.modSlot i fun y => { y with read := read }).slot j =
      if j = i then { s.slot j with read := read } else s.slot j := fun j => State.modSlot_slot ..
  refine ⟨fun n j => ?_, fun j => ?_, h.ring_le, fun b hb => ?_⟩
  · have hown : ((s.modSlot i fun y => { y with read := read }).slot j).owner = (s.slot j).owner := by
      rw [hslot]
      split <;> rfl
    rw [State.shelf_slot, hown]
    exact h.holds_iff n j
  · rw [State.shelf_slot, hslot]
    split
    · next hj => exact (h.fit j).withRead (hj ▸ howner) read
    · exact h.fit j
  · rw [State.shelf_slot, hslot, if_neg (hquiet b hb)]
    exact h.plays b hb

theorem endSnapshot_lost_shelf_ok (h : s.shelf.Ok) : (endSnapshot s false).shelf.Ok :=
  State.shelf_ok_of_idle h rfl rfl rfl

/-- A complete stream has its slot read, and is over (R152, R169). -/
theorem endSnapshot_complete_shelf_ok (h : s.shelf.Ok) (howner : (s.slot s.streamer.slot).owner ≠ none) :
    (endSnapshot s true).shelf.Ok := by
  have hidle : (s.modStreamer fun y => { y with state := .idle }).shelf.Ok := State.shelf_ok_of_idle h rfl rfl rfl
  have hread := modSlot_read_shelf_ok hidle (i := s.streamer.slot) howner
    (fun b hb => by rw [Streamer.playback_of_idle rfl] at hb; cases hb) true
  exact hread

/-- A captured frame is streamed while some are left (R169). -/
theorem snapshotFrame_shelf_ok (h : s.shelf.Ok) (hplays : s.streamer.playback = some b) (hleft : b.sent < b.total)
    (f : RingFrame) : (snapshotFrame s f).shelf.Ok := by
  have hslot := h.plays b hplays
  have hsent : sat16 b.sent 1 ≤ b.total := (Nat.min_le_right ..).trans hleft
  obtain ⟨hstreaming, rfl⟩ := Streamer.playback_eq_some.1 hplays
  have hnext := h.withPlays (o := (snapshotFrame s f).streamer.playback) fun b' hb' => by
    obtain ⟨-, rfl⟩ := Streamer.playback_eq_some.1 hb'
    exact { hslot with sent_le := hsent }
  exact hnext

theorem lookSnapshot_shelf_ok (h : s.shelf.Ok) : (lookSnapshot s).shelf.Ok := by
  unfold lookSnapshot
  dsimp only
  split
  swap
  · exact h
  next hstreams =>
  obtain ⟨hstreaming, hkind⟩ := State.kind_of_streams hstreams
  split
  · split
    · exact endSnapshot_lost_shelf_ok h
    · exact h
  next hkept =>
  have hplays : s.streamer.playback = some {
      slot := s.streamer.slot, owner := s.streamer.owner, total := s.streamer.total, sent := s.streamer.sent } :=
    Streamer.playback_eq_some.2 ⟨⟨by simp [hstreaming], hkind, by simpa using hkept⟩, rfl⟩
  (repeat' split)
  · refine endSnapshot_complete_shelf_ok h ?_
    have howner : (s.slot s.streamer.slot).owner = some s.streamer.owner := (h.plays _ hplays).owner
    simp [howner]
  · exact h
  · next hleft _ _ f _ => exact snapshotFrame_shelf_ok h hplays (not_le.1 hleft) f
  · exact h
  · exact h

/-- A stream starts of a slot that an entry holds, which is then unread (R169). -/
theorem startSnapshot_shelf_ok (h : s.shelf.Ok) (hidle : s.streamer.state = .idle) {n : Nat} {i : SlotNo}
    (hholds : s.store.Holds n i) (p : Port) : (startSnapshot s p n i).shelf.Ok := by
  have howner : (s.slot i).owner = some n := (h.holds_iff n i).1 hholds
  have hunread := modSlot_read_shelf_ok h (i := i) (by simp [howner])
    (fun b hb => by rw [Streamer.playback_of_idle hidle] at hb; cases hb) false
  have hstarted := hunread.withPlays (o := (startSnapshot s p n i).streamer.playback) fun b hb => by
    obtain ⟨-, rfl⟩ := Streamer.playback_eq_some.1 hb
    have hslot : (s.modSlot i fun y => { y with read := false }).slot i = { s.slot i with read := false } :=
      (State.modSlot_slot ..).trans (if_pos rfl)
    change ((s.modSlot i fun y => { y with read := false }).slot i).Plays _
    rw [hslot]
    exact ⟨howner, rfl, le_rfl, Nat.zero_le _⟩
  exact hstarted

/-! ### Ports that leave the bus -/

theorem enterBusOff_shelf (s : State) (p : Port) : (enterBusOff s p).shelf = s.shelf := by
  have hlost : (losePort (s.silenced p) p).shelf = s.shelf :=
    State.shelf_of_same (by simp [State.silenced]) (by simp [State.silenced]) (by simp [State.silenced])
  obtain ⟨-, -, hstore, -, -, -, hsnapshots, -, hstreamer, -⟩ := (enterBusOff_yieldOnly s p).fields
  rw [State.shelf_of_same hstore hsnapshots hstreamer, pauseStream_shelf, hlost]

theorem frameFailed_shelf (s : State) (p : Port) : (frameFailed s p).shelf = s.shelf := by
  unfold frameFailed
  (repeat' split)
  · rfl
  · exact enterBusOff_shelf _ p
  · exact State.shelf_of_same (by simp) (by simp) (by simp)
  · rfl

theorem applyPortRow_shelf (s : State) (p : Port) (row : PortRow) : (applyPortRow s p row).shelf = s.shelf := by
  unfold applyPortRow
  dsimp only
  rw [State.shelf_of_same (settleLook_frame _ s).2.2.1 (by simp) (by simp), pauseStream_shelf]
  exact State.shelf_of_same (by simp) (by simp) (by simp)

/-! ### Power -/

/-- After a power-on every slot is FREE, no entry holds one, and the streamer is IDLE (R6, R144, R176). -/
theorem powerOnBase_shelf_ok (s : State) : (powerOnBase s).shelf.Ok where
  holds_iff n i := by
    have hslot : (powerOnBase s).slot i = Slot.freed := by
      simp [powerOnBase, State.slot, SnapshotUnit.start, Vector.get_eq_getElem]
    have hbare : ∀ e ∈ (powerOnBase s).store.entries, e.slot = none := fun e he => by
      unfold powerOnBase at he
      dsimp only at he
      split at he
      · obtain ⟨e', -, rfl⟩ := List.mem_map.1 he
        rfl
      · cases he
    rw [State.shelf_slot, hslot]
    refine ⟨fun ⟨e, he, _, hi⟩ => ?_, fun h => nomatch h⟩
    rw [hbare e he] at hi
    cases hi
  fit i := by
    have hslot : (powerOnBase s).slot i = Slot.freed := by
      simp [powerOnBase, State.slot, SnapshotUnit.start, Vector.get_eq_getElem]
    rw [State.shelf_slot, hslot]
    exact Slot.freed_fit
  ring_le p := by simp [powerOnBase, State.ring, SnapshotUnit.start, Vector.get_eq_getElem]
  plays b hb := nomatch hb

theorem keyOnAtStart_shelf (s : State) : (keyOnAtStart s).shelf = s.shelf :=
  State.shelf_of_same (keyOnAtStart_store s) (by simp) (by simp)

theorem enterSleep_shelf_ok (h : s.shelf.Ok) : (enterSleep s).shelf.Ok := by
  unfold enterSleep
  dsimp only
  have hflushed : (flushDue ((modAllPorts s PortUnit.sleep).modManagement fun m => { m with slot := .empty })).shelf =
      s.shelf := State.shelf_of_same (by simp) (by simp) (by simp)
  exact finishSlots_shelf_ok (hflushed ▸ h)

theorem wakeUp_shelf_ok (h : s.shelf.Ok) : (wakeUp s).shelf.Ok := by
  rw [wakeUp_eq]
  exact State.shelf_ok_of_idle (emptyRings_shelf_ok h) rfl rfl rfl

/-! ### Requests -/

theorem softReset_shelf_ok (h : s.shelf.Ok) : (softReset s).shelf.Ok := by
  rw [softReset_eq]
  refine finishSlots_shelf_ok (emptyRings_shelf_ok (State.shelf_ok_of_idle h ?_ ?_ ?_)) <;> simp [State.resetting]

theorem checkSleep_shelf (s : State) : (checkSleep s).shelf = s.shelf :=
  State.shelf_of_same (by simp) (by simp) (by simp)

/-- A request leaves the shelf in order when its effect does. -/
theorem serve_shelf_ok {k : RequestKind} {effect : State → Port → List Byte → Answer} (h : s.shelf.Ok)
    (heffect : ∀ p data, (effect s p data).state.shelf.Ok) : (checkSleep (serve s k effect)).shelf.Ok := by
  rw [checkSleep_shelf]
  unfold serve
  split
  · next p data _ =>
    dsimp only
    split
    · rw [State.shelf_of_same (s := (effect s p data).state) (by simp) (by simp) (by simp)]
      exact heffect p data
    · exact h
  · exact h
  · exact h

theorem needBytes_shelf_ok {k : Nat} {data : List Byte} {a : Answer} (h : s.shelf.Ok) (ha : a.state.shelf.Ok) :
    (needBytes k s data a).state.shelf.Ok := by
  unfold needBytes
  split
  · exact h
  · exact ha

theorem commitRow_shelf (s : State) (table row : Nat) : (commitRow s table row).state.shelf = s.shelf := by
  have happly : ∀ {α : Type} (a : Option α) (f : α → State), (∀ r, (f r).shelf = s.shelf) →
      (applyDecoded s a f).state.shelf = s.shelf := fun a f hf => by
    cases a with
    | none => rfl
    | some r => exact hf r
  have hdefer : ∀ pc, (applyOrDefer s pc).state.shelf = s.shelf := fun pc => by
    unfold applyOrDefer
    (repeat' split)
    · rfl
    · rfl
    · apply State.shelf_of_same <;> simp [plainAnswer]
  unfold commitRow
  dsimp only
  (repeat' split)
  · exact happly _ _ fun _ => rfl
  · rfl
  · exact hdefer _
  · rfl
  · exact hdefer _
  · rfl
  · exact happly _ _ fun r => applyPortRow_shelf s _ r
  · rfl
  · exact happly _ _ fun r => State.shelf_of_same (by simp) (by simp) (by simp)
  · rfl
  · rfl

/-- The slot of a named entry is one that it holds (R151, R169). -/
theorem holds_of_named {n : Nat} {i : SlotNo} (h : (s.entry n).bind (·.slot) = some i) : s.store.Holds n i := by
  obtain ⟨e, he, hi⟩ := Option.bind_eq_some_iff.1 h
  obtain ⟨hmem, hseq⟩ := mem_of_entry he
  exact ⟨e, hmem, hseq, hi⟩

theorem serveSnapshot_shelf_ok (h : s.shelf.Ok) (p : Port) (data : List Byte) :
    (serveSnapshot s p data).state.shelf.Ok := by
  refine needBytes_shelf_ok h ?_
  split
  · exact h
  · next hidle =>
    split
    · next i hi => exact startSnapshot_shelf_ok h (not_not.1 hidle) (holds_of_named hi) p
    · exact h

theorem serveExport_shelf_ok (h : s.shelf.Ok) (p : Port) (data : List Byte) :
    (serveExport s p data).state.shelf.Ok := by
  refine needBytes_shelf_ok h ?_
  split
  · exact h
  · split
    · exact h
    · exact State.shelf_ok_of_silent h rfl rfl (Streamer.playback_of_entries rfl)

end Sys2Proof.Machine

/-! PROOFS. Every step keeps the shelf in order: O6. -/

namespace Sys2Proof.Machine

variable {s : State}

/-- Every command keeps the shelf in order. -/
theorem exec_shelf_ok (i : Instr) (h : s.shelf.Ok) (htables : TablesOk s) (hok : s.store.Ok) :
    Leads (exec i s) fun t => t.shelf.Ok := by
  have hstay : Leads (.next s) fun t => t.shelf.Ok := leads_next.2 h
  have hsame : ∀ {t : State}, t.shelf = s.shelf → Leads (.next t) fun t => t.shelf.Ok :=
    fun ht => leads_next.2 (ht ▸ h)
  have hchecked : ∀ {t : State}, t.shelf.Ok → Leads (.next (checkSleep t)) fun t => t.shelf.Ok :=
    fun ht => leads_next.2 (by rwa [checkSleep_shelf])
  cases i with
  | powerOn =>
    refine leads_next.2 ?_
    rw [keyOnAtStart_shelf]
    exact powerOnBase_shelf_ok s
  | arrival p f =>
    simp only [exec, execArrival]
    (repeat' split)
    · exact leads_next.2 (takeArrival_shelf_ok h htables.1 hok htables.postsFit p f)
    · exact hstay
    · exact leads_refused
  | busIdle p =>
    simp only [exec, execBusIdle]
    (repeat' split)
    · refine hsame ?_
      rw [State.shelf_of_same (lookCheck_frame _).2.2.1 (by simp) (by simp), resumeStream_shelf]
      rfl
    · exact hsame rfl
    · exact hstay
  | transmissionFailed p => exact hchecked (frameFailed_shelf s p ▸ h)
  | waitTimerExpiry c =>
    simp only [exec, execWaitTimerExpiry]
    (repeat' split)
    · exact hchecked (State.shelf_of_same (retryPoint_store s c) (by simp) (by simp) ▸ h)
    · exact hstay
    · exact hstay
  | keyLossTimerExpiry =>
    simp only [exec, execKeyLossTimerExpiry]
    (repeat' split)
    · exact hstay
    · exact hsame (State.shelf_of_same (by simp) (by simp) (by simp))
    · exact hsame rfl
  | keyOffGraceExpiry =>
    simp only [exec, execKeyOffGraceExpiry]
    split
    · have hcut : (cutAll (s.modSurvey fun v => { v with grace := none })).shelf = s.shelf :=
        State.shelf_of_same (by simp) (by simp) (by simp)
      exact hchecked (hcut ▸ h)
    · exact hstay
  | captureTrigger n =>
    simp only [exec, execCaptureTrigger]
    (repeat' split)
    · exact hstay
    · next tr _ _ =>
      exact leads_next.2 (takeTrigger_shelf_ok (s := s.modSnapshots fun u => { u with triggers := u.triggers.erase tr })
        h hok htables.postsFit.row tr)
    · exact hstay
  | postWindowExpiry i => exact leads_next.2 (modSlot_finish_shelf_ok h i)
  | sleepDelayExpiry =>
    simp only [exec, execSleepDelayExpiry]
    split
    · exact hchecked h
    · exact hstay
    · exact hstay
  | saveComplete =>
    simp only [exec, execSaveComplete]
    split
    · exact leads_next.2 (enterSleep_shelf_ok h)
    · exact hstay
  | wake p =>
    simp only [exec, execWake]
    split
    · refine leads_next.2 ?_
      rw [keyOnAtStart_shelf]
      exact wakeUp_shelf_ok h
    · exact hstay
  | exportLook => exact hchecked (lookExport_shelf_ok h)
  | snapshotLook => exact hchecked (lookSnapshot_shelf_ok h)
  | receiveError | transmissionSent | lostArbitration | recoveryEvent | transmitChoice | guardTimerExpiry | grant
  | internalTick | holdTimerExpiry | roundTick | roundEnd | queueHeldResponse | queueNotice
  | noticeIntervalExpiry =>
    simp only [exec, execReceiveError, execTransmissionSent, execLostArbitration, execRecoveryEvent, execTransmitChoice,
      execGuardTimerExpiry, execGrant, execInternalTick, execHoldTimerExpiry, execRoundTick, execRoundEnd,
      execQueueHeldResponse, execQueueNotice, execNoticeIntervalExpiry]
    (repeat' split) <;> exact hsame (State.shelf_of_same (by simp) (by simp) (by simp))
  | commit =>
    refine leads_next.2 (serve_shelf_ok h fun p data => needBytes_shelf_ok h ?_)
    split
    · exact h
    · rwa [commitRow_shelf]
  | softReset => exact leads_next.2 (serve_shelf_ok h fun _ _ => softReset_shelf_ok h)
  | surveyStop =>
    exact leads_next.2 (serve_shelf_ok h fun _ _ =>
      State.shelf_of_same (stopSurvey_store s) (by simp) (by simp) ▸ h)
  | surveyStart =>
    refine leads_next.2 (serve_shelf_ok h fun p data => needBytes_shelf_ok h ?_)
    split
    · next mode _ =>
      have hstarted : (startSurvey s mode).shelf = s.shelf := State.shelf_of_same (by simp) (by simp) (by simp)
      exact hstarted ▸ h
    · exact h
  | readNow =>
    refine leads_next.2 (serve_shelf_ok h fun p data => needBytes_shelf_ok h ?_)
    (repeat' split)
    · exact h
    · exact h
    · exact h
    · next st _ _ _ =>
      have hurgent : (makeUrgent s st).shelf = s.shelf := State.shelf_of_same (by simp) (by simp) (by simp)
      exact hurgent ▸ h
  | exportStart => exact leads_next.2 (serve_shelf_ok h (serveExport_shelf_ok h))
  | exportStop => exact leads_next.2 (serve_shelf_ok h fun _ _ => State.shelf_ok_of_idle h rfl rfl rfl)
  | snapshot => exact leads_next.2 (serve_shelf_ok h (serveSnapshot_shelf_ok h))
  | clear =>
    refine leads_next.2 (serve_shelf_ok h fun p data => needBytes_shelf_ok h ?_)
    split
    · exact clearStation_shelf_ok h _
    · exact h
  | clearAll => exact leads_next.2 (serve_shelf_ok h fun _ _ => clearStore_shelf_ok h)
  | release =>
    refine leads_next.2 (serve_shelf_ok h fun p data => needBytes_shelf_ok h ?_)
    split
    · next i _ =>
      change (freeSlot s i).shelf.Ok
      rw [freeSlot_shelf]
      exact h.free i
    · exact h
  | unknownRequest | status | portStatus | stationStatus | readRow | readEntry | stage | setClock | recover | notices =>
    refine leads_next.2 (serve_shelf_ok h fun p data => ?_)
    simp only [serveUnknown, serveStatus, servePortStatus, serveStationStatus, serveReadRow, serveReadEntry, serveStage,
      serveSetClock, serveRecover, serveNotices, needBytes, okAnswer, plainAnswer]
    (repeat' split) <;> exact h

/-- Settles O6: each command keeps the shelf in order, and with it slots, entries and the stream bound together. -/
theorem stepKeepsSlots : Obligations.StepKeepsSlots := by
  intro s t hs ht
  have hshelf : t.shelf.Ok := by
    rcases step_cases ht with ⟨c, rest, -, hc⟩ | ⟨-, c, u, hu, hc⟩ | ⟨-, -, rfl⟩
    · exact exec_shelf_ok c (s := { s with pending := rest }) hs.shelf_ok hs.tables hs.store.1 t hc
    · rcases (idleChoice_cases hu).2 with rfl | rfl
      · exact exec_shelf_ok c hs.shelf_ok hs.tables hs.store.1 t hc
      · exact exec_shelf_ok c (s := s.choose) hs.shelf_ok hs.tables hs.store.1 t hc
    · exact passMillisecond_shelf_ok hs.shelf_ok
  obtain ⟨hslots, hstream, -⟩ := shelf_ok_iff.1 hshelf
  exact ⟨hslots, hstream⟩

end Sys2Proof.Machine

/-! PROOFS. A capture trigger and what becomes of it, and the end of a post window: O46. -/

namespace Sys2Proof.Machine

variable {s : State} {x : Trigger} {before behind : List Trigger} {seq : Nat} {e : Entry} {i : SlotNo}

/-! ### The trigger that a command takes -/

/-- The state in which a trigger is judged: it is no longer outstanding (R145). -/
def State.withTriggers (s : State) (l : List Trigger) : State :=
  { s with snapshots := { s.snapshots with triggers := l } }

theorem exec_captureTrigger_of_not_outstanding (h : ∀ x ∈ s.snapshots.triggers, x.seq ≠ seq) :
    exec (.captureTrigger seq) s = .next s := by
  have hnone : (s.snapshots.triggers.find? fun t => t.seq = seq) = none :=
    List.find?_eq_none.2 fun x hx => by simpa using h x hx
  simp only [exec, execCaptureTrigger, hnone]

theorem exec_captureTrigger_of_asleep (h : s.retention.power = .sleep) :
    exec (.captureTrigger seq) s = .next s := by
  simp only [exec, execCaptureTrigger, h, if_true]
  split <;> rfl

/-- The oldest outstanding trigger of the number is taken, and no other (R145). -/
theorem exec_captureTrigger_of_oldest (htriggers : s.snapshots.triggers = before ++ x :: behind)
    (hbefore : ∀ y ∈ before, y.seq ≠ seq) (hx : x.seq = seq) (hawake : s.retention.power ≠ .sleep) :
    exec (.captureTrigger seq) s = .next (takeTrigger (s.withTriggers (before ++ behind)) x) := by
  have hnone : (before.find? fun t => t.seq = seq) = none :=
    List.find?_eq_none.2 fun y hy => by simpa using hbefore y hy
  have hfind : (s.snapshots.triggers.find? fun t => t.seq = seq) = some x := by
    rw [htriggers, List.find?_append, hnone, List.find?_cons_of_pos (by simpa using hx), Option.none_or]
  have herase : s.snapshots.triggers.erase x = before ++ behind := by
    have hmem : x ∉ before := fun hmem => hbefore x hmem hx
    rw [htriggers, List.erase_append_right _ hmem, List.erase_cons_head]
  simp only [exec, execCaptureTrigger, hfind, if_neg hawake]
  rw [← herase]
  rfl

/-! ### Table 9.3 -/

/-- The entry of the number has the slot field and the snapshot-missed flag (Table 1.1). -/
def State.annotate (s : State) (seq : Nat) (slot : Option SlotNo) (missed : Bool) : State :=
  { s with store := { s.store with entries := s.store.entries.map fun e =>
    if e.seq = seq then { e with slot := slot, missed := missed } else e } }

theorem captureInto_eq (s : State) (seq : Nat) (row : StationRow) (i : SlotNo) : captureInto s seq row i =
    (s.modSlot i fun _ => captured seq row (s.ring row.homePort)).annotate seq (some i) false := by
  simp only [captureInto, State.modEntries, State.modStore, State.annotate, decide_eq_true_eq]

/-- A trigger that is missed leaves the entry its slot (R146, R148). -/
theorem missCapture_eq (hok : s.store.Ok) (he : e ∈ s.store.entries) (hseq : e.seq = seq) :
    missCapture s seq = s.annotate seq e.slot true := by
  have hentries : (s.store.entries.map fun y => if y.seq = seq then { y with missed := true } else y) =
      s.store.entries.map fun y => if y.seq = seq then { y with slot := e.slot, missed := true } else y := by
    refine List.map_congr_left fun y hy => ?_
    split
    · next hy' => rw [hok.eq_of_seq hy he (hy'.trans hseq.symm)]
    · rfl
  simp only [missCapture, State.modEntries, State.modStore, State.annotate, decide_eq_true_eq, hentries]

theorem freeSlotNo_of_lowest (hfree : (s.slot i).state = .free) (hlower : ∀ j, j < i → (s.slot j).state ≠ .free) :
    s.freeSlotNo = some i := by
  refine List.find?_eq_some_iff_getElem.2 ⟨decide_eq_true hfree, i.val, by simp [allSlots], by simp [allSlots],
    fun j hj => ?_⟩
  simpa [allSlots] using hlower ⟨j, hj.trans i.isLt⟩ hj

theorem freeSlotNo_of_none (h : ∀ i, (s.slot i).state ≠ .free) : s.freeSlotNo = none :=
  List.find?_eq_none.2 fun i _ => by simpa using h i

/-- Without its row's enable flag, or without its entry, a trigger has no effect (R145). -/
theorem takeTrigger_of_idle (h : (s.stationRow x.station).snapEnable = false ∨ s.entry x.seq = none) :
    takeTrigger s x = s := by
  unfold takeTrigger
  dsimp only
  split
  · next henable =>
    rw [h.resolve_left (by simp [henable])]
  · rfl

/-- An entry without a slot is captured into the lowest FREE one (R146). -/
theorem takeTrigger_of_free (henable : (s.stationRow x.station).snapEnable = true) (he : s.entry x.seq = some e)
    (hslot : e.slot = none) (hfree : s.freeSlotNo = some i) :
    takeTrigger s x = captureInto s x.seq (s.stationRow x.station) i := by
  simp only [takeTrigger, henable, if_true, he, hslot, hfree]

/-- Without a FREE slot the capture is missed (R146). -/
theorem takeTrigger_of_full (henable : (s.stationRow x.station).snapEnable = true) (he : s.entry x.seq = some e)
    (hslot : e.slot = none) (hfull : s.freeSlotNo = none) : takeTrigger s x = missCapture s x.seq := by
  simp only [takeTrigger, henable, if_true, he, hslot, hfull]

/-- A slot that has been read is captured into anew (R148). -/
theorem takeTrigger_of_read (henable : (s.stationRow x.station).snapEnable = true) (he : s.entry x.seq = some e)
    (hslot : e.slot = some i) (hread : (s.slot i).read = true) :
    takeTrigger s x = captureInto s x.seq (s.stationRow x.station) i := by
  simp only [takeTrigger, henable, if_true, he, hslot, hread]

/-- A slot that has not been read is kept, and the capture is missed (R148). -/
theorem takeTrigger_of_unread (henable : (s.stationRow x.station).snapEnable = true) (he : s.entry x.seq = some e)
    (hslot : e.slot = some i) (hread : (s.slot i).read = false) : takeTrigger s x = missCapture s x.seq := by
  simp only [takeTrigger, henable, if_true, he, hslot, hread, Bool.false_eq_true, if_false]

/-! ### The end of a post window -/

/-- Two changes of a slot that agree on it are the same. -/
theorem modSlot_congr {f g : Slot → Slot} (h : f (s.slot i) = g (s.slot i)) : s.modSlot i f = s.modSlot i g := by
  unfold State.modSlot modifyAt
  rw [show f (s.snapshots.slots.get i) = g (s.snapshots.slots.get i) from h]

theorem modSlot_finish_of_filling (h : (s.slot i).state = .filling) :
    s.modSlot i Slot.finish = s.modSlot i fun y => { y with state := .complete, timer := none } :=
  modSlot_congr (if_pos h)

theorem modSlot_finish_of_not_filling (h : (s.slot i).state ≠ .filling) : s.modSlot i Slot.finish = s := by
  have hsame : modifyAt s.snapshots.slots i Slot.finish = s.snapshots.slots := modifyAt_id _ _ _ (if_neg h)
  rw [State.modSlot, hsame]

/-! ### The statement about capture triggers -/

/-- Settles O46: the oldest trigger of the number is taken, and `takeTrigger` goes through Table 9.3. -/
theorem captureTriggersAreTaken : Obligations.CaptureTriggersAreTaken := by
  refine ⟨fun seq s => ⟨?_, fun before x behind htriggers hbefore hx hawake => ?_⟩,
    fun i s => ⟨fun hfilling => ?_, fun hother => ?_⟩⟩
  · rintro (hnone | hasleep)
    · exact exec_captureTrigger_of_not_outstanding hnone
    · exact exec_captureTrigger_of_asleep hasleep
  · intro row left fills withEntry capture
    have htaken : exec (.captureTrigger seq) s = .next (takeTrigger left x) :=
      exec_captureTrigger_of_oldest htriggers hbefore hx hawake
    subst hx
    refine ⟨fun hidle => ?_, fun e henable hok he hseq => ?_⟩
    · rw [htaken, takeTrigger_of_idle (s := left) hidle]
    · have hentry : left.entry x.seq = some e := hseq ▸ entry_of_mem (s := left) hok he
      have hcapture : ∀ i, captureInto left x.seq row i = capture i := captureInto_eq left x.seq row
      have hmiss : missCapture left x.seq = withEntry left e.slot true := missCapture_eq hok he hseq
      rw [htaken]
      refine ⟨fun hbare => ⟨fun i hfree hlower => ?_, fun hfull => ?_⟩, fun i hi => ⟨fun hread => ?_, fun hread => ?_⟩⟩
      · rw [takeTrigger_of_free (s := left) henable hentry hbare (freeSlotNo_of_lowest hfree hlower), ← hcapture]
        rfl
      · rw [takeTrigger_of_full (s := left) henable hentry hbare (freeSlotNo_of_none hfull), hmiss, hbare]
      · rw [takeTrigger_of_read (s := left) henable hentry hi hread, ← hcapture]
        rfl
      · rw [takeTrigger_of_unread (s := left) henable hentry hi hread, hmiss, hi]
  · exact congrArg Host.Outcome.next (modSlot_finish_of_filling hfilling)
  · exact congrArg Host.Outcome.next (modSlot_finish_of_not_filling hother)

end Sys2Proof.Machine

/-! PROOFS. The requests that are refused, STAGE and the status requests: O53, O54 and O55. -/

namespace Sys2Proof.Machine

variable {s t : State} {p : Port} {k : RequestKind} {code : Byte} {data args rest : List Byte}

/-! ### A request and the command that serves it -/

/-- The effect and the answer of a request (chapter 10); `exec_command` ties it to the commands. -/
def RequestKind.effect : RequestKind → State → Port → List Byte → Answer
  | .unknown => serveUnknown
  | .status => serveStatus
  | .portStatus => servePortStatus
  | .stationStatus => serveStationStatus
  | .readRow => serveReadRow
  | .stage => serveStage
  | .commit => serveCommit
  | .softReset => serveSoftReset
  | .surveyStart => serveSurveyStart
  | .surveyStop => serveSurveyStop
  | .readNow => serveReadNow
  | .setClock => serveSetClock
  | .recover => serveRecover
  | .clear => serveClear
  | .clearAll => serveClearAll
  | .exportStart => serveExport
  | .exportStop => serveExportStop
  | .snapshot => serveSnapshot
  | .release => serveRelease
  | .notices => serveNotices
  | .readEntry => serveReadEntry

/-- A request command serves the slot, and then the retention unit's check runs (R155, R172). -/
theorem exec_command (k : RequestKind) (s : State) : exec k.command s = .next (checkSleep (serve s k k.effect)) := by
  cases k <;> rfl

theorem exec_command_of_not_serving (hbusy : s.readyToSleep = false) (h : s.serving = false) :
    exec k.command s = .next s := by
  rw [exec_command, serve_idle h, checkSleep_of_busy hbusy]

theorem exec_command_of_other (hslot : s.management.slot = .serving p data) (h : requestKind data ≠ k) :
    exec k.command s = .next s := by
  rw [exec_command, serve_other hslot h, checkSleep_of_busy (readyToSleep_of_serving hslot)]

/-- A request without answer data: one frame with the code and the result (R153, R154). -/
theorem exec_command_of_plainAnswer {r : Result} (hslot : s.management.slot = .serving p data)
    (hkind : requestKind data = k) (hcode : requestCode data = code) (h : k.effect s p data = plainAnswer t r) :
    exec k.command s = .next (checkSleep (respond t p [[code, r.code, 0, 0, 0, 0, 0, 0]])) := by
  rw [exec_command, serve_served hslot hkind, h, answer_plain, hcode]
  rfl

/-- A request answered OK with data: every frame begins with the code and 0x00 (R153). -/
theorem exec_command_of_okAnswer {bodies frames : List (List Byte)} (hslot : s.management.slot = .serving p data)
    (hkind : requestKind data = k) (hcode : requestCode data = code) (h : k.effect s p data = okAnswer t bodies)
    (hframes : bodies.map (fun b => pad8 (code :: 0 :: b)) = frames) :
    exec k.command s = .next (checkSleep (respond t p frames)) := by
  rw [exec_command, serve_served hslot hkind, h, hcode, ← hframes]
  rfl

/-! ### Unknown and short requests (R153, R177) -/

theorem requestKind_unknown (h : code = 0 ∨ 0x14 ≤ code.toNat) : requestKind (code :: args) = .unknown := by
  rcases h with rfl | h
  · rfl
  · obtain ⟨n, hn⟩ := Nat.exists_eq_add_of_le' h
    rw [requestKind, hn]
    rfl

/-- The data bytes that a request needs, its code among them; 0 where the request has no arguments to miss
(Table 13.4). -/
def RequestKind.bytesNeeded : RequestKind → Nat
  | .unknown | .status | .softReset | .surveyStop | .clearAll | .exportStop => 0
  | .portStatus | .stationStatus | .stage | .surveyStart | .readNow | .recover | .clear => 2
  | .readRow | .commit => 3
  | .notices => 4
  | .setClock | .snapshot | .release | .readEntry => 5
  | .exportStart => 7

/-- A missing byte is judged before anything else. -/
theorem effect_of_short (h : data.length < k.bytesNeeded) : k.effect s p data = plainAnswer s .badArg := by
  cases k
  case unknown | status | softReset | surveyStop | clearAll | exportStop => exact absurd h (Nat.not_lt_zero _)
  all_goals exact if_pos h

/-- A request whose code stands in the slot without its last argument byte. -/
theorem exec_command_of_short {n : Nat} (k : RequestKind) (hneeded : k.bytesNeeded = n + 1)
    (hkind : args.length < n → requestKind (code :: args) = k)
    (hslot : s.management.slot = .serving p (code :: args)) (hshort : args.length < n) :
    exec k.command s = .next (checkSleep (respond s p [[code, 3, 0, 0, 0, 0, 0, 0]])) :=
  exec_command_of_plainAnswer (r := .badArg) hslot (hkind hshort) rfl
    (effect_of_short (hneeded ▸ Nat.succ_lt_succ hshort))

/-- Settles O53: a request command serves a request of its own kind alone, and a missing byte is judged first. -/
theorem unservedAndRefusedRequests : Obligations.UnservedAndRefusedRequests := by
  refine ⟨fun s k hbusy => ⟨exec_command_of_not_serving hbusy, fun p data => exec_command_of_other⟩,
    fun s p => ⟨fun hslot => ?_, fun code args hslot hcode => ?_⟩, fun s p args => ?_⟩
  · exact exec_command_of_plainAnswer (k := .unknown) (r := .badRequest) hslot rfl rfl rfl
  · exact exec_command_of_plainAnswer (k := .unknown) (r := .badRequest) hslot (requestKind_unknown hcode) rfl rfl
  · have hclear : args.length < 1 → requestKind (0x0D :: args) = .clear := fun h => by
      rw [List.length_eq_zero_iff.1 (Nat.lt_one_iff.1 h)]
      rfl
    simp only [List.forall_mem_cons]
    exact ⟨exec_command_of_short .portStatus rfl fun _ => rfl, exec_command_of_short .stationStatus rfl fun _ => rfl,
      exec_command_of_short .readRow rfl fun _ => rfl, exec_command_of_short .stage rfl fun _ => rfl,
      exec_command_of_short .commit rfl fun _ => rfl, exec_command_of_short .surveyStart rfl fun _ => rfl,
      exec_command_of_short .readNow rfl fun _ => rfl, exec_command_of_short .setClock rfl fun _ => rfl,
      exec_command_of_short .recover rfl fun _ => rfl, exec_command_of_short .clear rfl hclear,
      exec_command_of_short .exportStart rfl fun _ => rfl, exec_command_of_short .snapshot rfl fun _ => rfl,
      exec_command_of_short .release rfl fun _ => rfl, exec_command_of_short .notices rfl fun _ => rfl,
      exec_command_of_short .readEntry rfl fun _ => rfl, fun _ h => absurd h List.not_mem_nil⟩

end Sys2Proof.Machine

/-! ### STAGE (R157) -/

namespace Sys2Proof.Machine

variable {s : State} {p : Port} {code offset : Byte} {bytes : List Byte}

/-- The bytes from `o` on are the written ones, as far as they go; every other byte is kept. -/
theorem writeStaging_get (v : Vector Byte 32) (o : Nat) (bs : List Byte) (i : Fin 32) : (writeStaging v o bs).get i =
    if o ≤ i.val ∧ i.val < o + bs.length then bs.getD (i.val - o) 0 else v.get i := by
  induction bs generalizing v o with
  | nil => rw [if_neg (by simp), writeStaging]
  | cons b bs ih =>
    rw [writeStaging, ih, List.length_cons]
    rcases Nat.lt_trichotomy i.val o with hlt | heq | hgt
    · have hkept : (v.setIfInBounds o b).get i = v.get i :=
        Vector.getElem_setIfInBounds_ne i.isLt (Nat.ne_of_gt hlt)
      rw [if_neg (by omega), if_neg (by omega), hkept]
    · have hset : (v.setIfInBounds o b).get i = b := by
        subst heq
        exact Vector.getElem_setIfInBounds_self i.isLt
      rw [if_neg (by omega), if_pos (by omega), hset, heq, Nat.sub_self, List.getD_cons_zero]
    · have hkept : (v.setIfInBounds o b).get i = v.get i :=
        Vector.getElem_setIfInBounds_ne i.isLt (Nat.ne_of_lt hgt)
      have hindex : i.val - o = i.val - (o + 1) + 1 := by omega
      have hrange : o + 1 ≤ i.val ∧ i.val < o + 1 + bs.length ↔ o ≤ i.val ∧ i.val < o + (bs.length + 1) := by omega
      rw [hkept, hindex, List.getD_cons_succ]
      simp only [hrange]

theorem serveStage_eq : serveStage s p (code :: offset :: bytes) =
    if 31 < offset.toNat ∨ 32 < offset.toNat + bytes.length then plainAnswer s .badArg
    else plainAnswer { s with management := { s.management with
      staging := writeStaging s.management.staging offset.toNat bytes } } .ok := by
  rw [serveStage, needBytes_of_le (by simp)]
  rfl

/-- Settles O55: the buffer after STAGE is the one `writeStaging` leaves. -/
theorem stageWritesTheBuffer : Obligations.StageWritesTheBuffer := by
  intro s p offset bytes hslot
  have hserve := serveStage_eq (s := s) (p := p) (code := 5) (offset := offset) (bytes := bytes)
  refine ⟨fun hout => ?_, fun hoffset hend => ⟨writeStaging s.management.staging offset.toNat bytes, ?_, fun i => ?_⟩⟩
  · rw [if_pos hout] at hserve
    exact exec_command_of_plainAnswer (k := .stage) (r := .badArg) hslot rfl rfl hserve
  · rw [if_neg (by omega)] at hserve
    exact exec_command_of_plainAnswer (k := .stage) (r := .ok) hslot rfl rfl hserve
  · exact writeStaging_get ..

end Sys2Proof.Machine

/-! ### Bytes of an answer -/

namespace Sys2Proof.Machine

theorem bigEndian_two (v : Nat) : bigEndian 2 v = [BitVec.ofNat 8 (v / 256), BitVec.ofNat 8 v] := by
  simp [bigEndian]

theorem bigEndian_four (v : Nat) : bigEndian 4 v = [BitVec.ofNat 8 (v / 16777216), BitVec.ofNat 8 (v / 65536),
    BitVec.ofNat 8 (v / 256), BitVec.ofNat 8 v] := by
  simp [bigEndian]

theorem pad8_length (bs : List Byte) : (pad8 bs).length = 8 := by simp [pad8]

/-- An answer frame keeps a body of up to six bytes and fills it up with 0x00 (R153). -/
theorem pad8_answer {body : List Byte} (code result : Byte) (h : body.length ≤ 6) :
    pad8 (code :: result :: body) = code :: result :: (body ++ List.replicate (6 - body.length) 0) := by
  have hfill : (List.replicate 8 (0 : Byte)).take (6 - body.length) = List.replicate (6 - body.length) 0 := by
    rw [List.take_replicate, Nat.min_eq_left (by omega)]
  have hbody : (body ++ List.replicate 8 (0 : Byte)).take 6 = body ++ List.replicate (6 - body.length) 0 := by
    rw [List.take_append, List.take_of_length_le h, hfill]
  exact congrArg (code :: result :: ·) hbody

/-! ### Rows in runs of six bytes (R162) -/

theorem sixes_length (n : Nat) (bs : List Byte) : (sixes n bs).length = n := by
  induction n generalizing bs with
  | zero => rfl
  | succ n ih => rw [sixes, List.length_cons, ih]

/-- Behind code and result, the answer frames of a row hold the row in order and then 0x00 (R162). -/
theorem sixes_flatten (code result : Byte) (n : Nat) (bs : List Byte) (h : bs.length ≤ 6 * n) :
    (((sixes n bs).map fun b => pad8 (code :: result :: b)).map (List.drop 2)).flatten =
      bs ++ List.replicate (6 * n - bs.length) 0 := by
  induction n generalizing bs with
  | zero =>
    rw [List.length_eq_zero_iff.1 (Nat.le_zero.1 h)]
    rfl
  | succ n ih =>
    have htail : (bs.drop 6).length ≤ 6 * n := by rw [List.length_drop]; omega
    rw [sixes, List.map_cons, List.map_cons, List.flatten_cons, ih _ htail,
      pad8_answer code result (List.length_take_le 6 bs), List.drop_succ_cons, List.drop_succ_cons, List.drop_zero,
      List.length_take, List.length_drop]
    rcases Nat.le_total 6 bs.length with hfull | hlast
    · have hrest : 6 * n - (bs.length - 6) = 6 * (n + 1) - bs.length := by omega
      rw [Nat.min_eq_left hfull, Nat.sub_self, List.replicate_zero, List.append_nil, ← List.append_assoc,
        List.take_append_drop, hrest]
    · have hrest : 6 - bs.length + 6 * n = 6 * (n + 1) - bs.length := by omega
      rw [List.take_of_length_le hlast, List.drop_of_length_le hlast, Nat.min_eq_right hlast,
        Nat.sub_eq_zero_of_le hlast, Nat.sub_zero, List.nil_append, List.append_assoc, List.replicate_append_replicate,
        hrest]

end Sys2Proof.Machine

/-! ### The status requests (R160 to R163) -/

namespace Sys2Proof.Machine

variable {s : State} {p : Port} {code n : Byte} {rest : List Byte}

theorem servePortStatus_of_le (h : 3 ≤ n.toNat) (p : Port) (code : Byte) :
    servePortStatus s p (code :: n :: rest) = plainAnswer s .badArg := by
  have hq : finOf 3 (stagedByte (code :: n :: rest) 1) = none := finOf_of_le h
  rw [servePortStatus, needBytes_of_le (by simp), hq]

theorem servePortStatus_of_port {q : Port} (h : q.val = n.toNat) (p : Port) (code : Byte) :
    servePortStatus s p (code :: n :: rest) = okAnswer s (portReport (s.port q)) := by
  have hq : finOf 3 (stagedByte (code :: n :: rest) 1) = some q := finOf_eq_some_iff.2 h.symm
  rw [servePortStatus, needBytes_of_le (by simp), hq]

theorem serveStationStatus_of_le (h : 48 ≤ n.toNat) (p : Port) (code : Byte) :
    serveStationStatus s p (code :: n :: rest) = plainAnswer s .badArg := by
  have hst : finOf 48 (stagedByte (code :: n :: rest) 1) = none := finOf_of_le h
  rw [serveStationStatus, needBytes_of_le (by simp), hst]

theorem serveStationStatus_of_station {st : StationNo} (h : st.val = n.toNat) (p : Port) (code : Byte) :
    serveStationStatus s p (code :: n :: rest) =
      okAnswer (s.modStation st fun y => { y with lapped := false }) (stationReport st (s.station st)) := by
  have hst : finOf 48 (stagedByte (code :: n :: rest) 1) = some st := finOf_eq_some_iff.2 h.symm
  rw [serveStationStatus, needBytes_of_le (by simp), hst]

/-- The sequence number of a READ_ENTRY, most significant byte first (Table 13.4). -/
theorem stagedField_four (code b1 b2 b3 b4 : Byte) (rest : List Byte) :
    stagedField (code :: b1 :: b2 :: b3 :: b4 :: rest) 1 4 =
      ((b1.toNat * 256 + b2.toNat) * 256 + b3.toNat) * 256 + b4.toNat := by
  simp [stagedField, ofBigEndian]

theorem serveReadEntry_of_none {b1 b2 b3 b4 : Byte} (p : Port) (code : Byte)
    (h : s.entry (((b1.toNat * 256 + b2.toNat) * 256 + b3.toNat) * 256 + b4.toNat) = none) :
    serveReadEntry s p (code :: b1 :: b2 :: b3 :: b4 :: rest) = plainAnswer s .notFound := by
  rw [serveReadEntry, needBytes_of_le (by simp), stagedField_four, h]

theorem serveReadEntry_of_entry {b1 b2 b3 b4 : Byte} {e : Entry} (p : Port) (code : Byte)
    (h : s.entry (((b1.toNat * 256 + b2.toNat) * 256 + b3.toNat) * 256 + b4.toNat) = some e) :
    serveReadEntry s p (code :: b1 :: b2 :: b3 :: b4 :: rest) = okAnswer s (entryReport e) := by
  rw [serveReadEntry, needBytes_of_le (by simp), stagedField_four, h]

theorem entry_eq_none {seq : Nat} (h : ∀ e ∈ s.store.entries, e.seq ≠ seq) : s.entry seq = none :=
  List.find?_eq_none.2 fun e he => by simpa using h e he

/-- A table or a row that the unit does not have. -/
theorem rowBytes_of_outside {table row : Nat} (h : 5 ≤ table ∨ table = 0 ∧ 96 ≤ row ∨ table = 1 ∧ 48 ≤ row ∨
    table = 2 ∧ 12 ≤ row ∨ table = 3 ∧ 3 ≤ row ∨ table = 4 ∧ row ≠ 0) : rowBytes s table row = none := by
  rcases h with h | ⟨rfl, h⟩ | ⟨rfl, h⟩ | ⟨rfl, h⟩ | ⟨rfl, h⟩ | ⟨rfl, h⟩
  · obtain ⟨k, rfl⟩ := Nat.exists_eq_add_of_le' h
    rfl
  iterate 4 rw [rowBytes, finOf_of_le h, Option.map_none]
  · exact if_neg h

theorem rowBytes_of_row {α : Type} {m row : Nat} {i : Fin m} (h : i.val = row) (f : Fin m → α) :
    (finOf m row).map f = some (f i) := by
  rw [finOf_eq_some_iff.2 h.symm, Option.map_some]

theorem exec_readRow_of_outside {table row : Byte}
    (hslot : s.management.slot = .serving p (0x04 :: table :: row :: rest))
    (h : rowBytes s table.toNat row.toNat = none) :
    exec .readRow s = .next (checkSleep (respond s p [[4, 3, 0, 0, 0, 0, 0, 0]])) := by
  have hserve : serveReadRow s p (0x04 :: table :: row :: rest) = plainAnswer s .badArg := by
    have hrow : rowBytes s (stagedByte (0x04 :: table :: row :: rest) 1)
        (stagedByte (0x04 :: table :: row :: rest) 2) = none := h
    rw [serveReadRow, needBytes_of_le (by simp), hrow]
  exact exec_command_of_plainAnswer (k := .readRow) (r := .badArg) hslot rfl rfl hserve

/-- A row is answered in as many frames as it takes at six bytes a frame (R162). -/
theorem exec_readRow_of_row {table row : Byte} {bs : List Byte}
    (hslot : s.management.slot = .serving p (0x04 :: table :: row :: rest))
    (h : rowBytes s table.toNat row.toNat = some bs) :
    ∃ frames, exec .readRow s = .next (checkSleep (respond s p frames)) ∧
      frames.length = (bs.length + 5) / 6 ∧ (∀ f ∈ frames, f.length = 8 ∧ f.take 2 = [4, 0]) ∧
      (frames.map (List.drop 2)).flatten = bs ++ List.replicate (6 * ((bs.length + 5) / 6) - bs.length) 0 := by
  have hserve : serveReadRow s p (0x04 :: table :: row :: rest) = okAnswer s (rowBodies bs) := by
    have hrow : rowBytes s (stagedByte (0x04 :: table :: row :: rest) 1)
        (stagedByte (0x04 :: table :: row :: rest) 2) = some bs := h
    rw [serveReadRow, needBytes_of_le (by simp), hrow]
  refine ⟨(rowBodies bs).map fun b => pad8 (4 :: 0 :: b),
    exec_command_of_okAnswer (k := .readRow) hslot rfl rfl hserve rfl, ?_, fun f hf => ?_, ?_⟩
  · rw [List.length_map, rowBodies, sixes_length]
  · obtain ⟨b, -, rfl⟩ := List.mem_map.1 hf
    exact ⟨pad8_length _, rfl⟩
  · exact sixes_flatten 4 0 _ bs (by omega)

/-! ### The frames of the reports (Table 13.5) -/

/-- STATUS: the states, flags and C; K and two counts of the store; the refusals, the overruns and the pending
commit. -/
theorem serveStatus_frames (s : State) (p : Port) (data : List Byte) :
    (serveStatus s p data).bodies.map (fun b => pad8 (1 :: 0 :: b)) =
      [[1, 0, byte (surveyCode s.survey.state), statusFlags s] ++ bigEndian 4 s.clock.c,
       [1, 0] ++ bigEndian 2 s.clock.k ++ bigEndian 2 s.store.entries.length ++ bigEndian 2 s.store.evictions,
       [1, 0] ++ bigEndian 2 s.store.refusals ++ [byte s.management.overruns] ++
         pendingBytes s.management.pendingCommit ++ [0]] := by
  rcases hpending : s.management.pendingCommit with _ | (_ | _)
  all_goals
    simp only [serveStatus, okAnswer, hpending]
    rfl

/-- PORT_STATUS: the state and the error counters with the drops; the other counts. -/
theorem portReport_frames (u : PortUnit) : (portReport u).map (fun b => pad8 (2 :: 0 :: b)) =
    [[2, 0, portStateByte u.state] ++ bigEndian 2 u.txErrors ++ [byte u.rxErrors] ++ bigEndian 2 u.drops,
     [2, 0] ++ bigEndian 2 u.strays ++ bigEndian 2 u.malformed ++ bigEndian 2 u.busOffs] := rfl

/-- STATION_STATUS: the station as it stands; its resume point; C of its last complete readback. -/
theorem stationReport_frames (st : StationNo) (x : StationState) :
    (stationReport st x).map (fun b => pad8 (3 :: 0 :: b)) =
      [[3, 0, byte st.val, byte (runCode x.run), byte x.failures, byte (outcomeCode x.lastOutcome),
        byte (flagBit 1 x.lapped + flagBit 2 x.resume.isSome + flagBit 4 x.lastComplete.isSome), 0],
       [3, 0] ++ (bigEndian 2 ((x.resume.map (·.next)).getD 0) ++ bigEndian 2 ((x.resume.map (·.n)).getD 0)) ++ [0, 0],
       [3, 0] ++ bigEndian 4 (x.lastComplete.getD 0) ++ [0, 0]] := rfl

/-- READ_ENTRY: the first report with the flags; the first and the last active time. -/
theorem entryReport_frames (e : Entry) : (entryReport e).map (fun b => pad8 (0x13 :: 0 :: b)) =
    [[0x13, 0] ++ bigEndian 4 e.firstReport ++ [byte (flagBit 1 e.firstActive.isSome), 0],
     [0x13, 0] ++ stampBytes e.firstActive, [0x13, 0] ++ stampBytes e.lastActive] := by
  have hstamp : ∀ t, pad8 (0x13 :: 0 :: stampBytes t) = [0x13, 0] ++ stampBytes t := fun t => by cases t <;> rfl
  rw [← hstamp, ← hstamp]
  rfl

/-- Settles O54: each request by the frames of its report, and READ_ROW by the runs of six bytes of its row. -/
theorem statusRequestsReport : Obligations.StatusRequestsReport := by
  intro s p rest answer
  refine ⟨fun hslot => ?_, fun n hslot => ⟨fun h => ?_, fun q hq hawake => ?_⟩,
    fun n hslot => ⟨fun h => ?_, fun st hst => ?_⟩,
    fun b1 b2 b3 b4 hslot => ⟨fun hnone => ?_, fun hok e he hseq => ?_⟩,
    fun t n hslot => ⟨fun hout => ?_, ?_, ?_, ?_, ?_, ?_⟩⟩
  · refine exec_command_of_okAnswer (k := .status) hslot rfl rfl rfl
      ((serveStatus_frames s p (1 :: rest)).trans ?_)
    simp only [bigEndian_two, bigEndian_four]
    rfl
  · exact exec_command_of_plainAnswer (k := .portStatus) (r := .badArg) hslot rfl rfl (servePortStatus_of_le h p _)
  · refine exec_command_of_okAnswer (k := .portStatus) hslot rfl rfl (servePortStatus_of_port hq p _)
      ((portReport_frames _).trans ?_)
    simp only [bigEndian_two]
    cases hstate : (s.port q).state
    case dormant => exact absurd hstate hawake
    all_goals rfl
  · exact exec_command_of_plainAnswer (k := .stationStatus) (r := .badArg) hslot rfl rfl
      (serveStationStatus_of_le h p _)
  · refine exec_command_of_okAnswer (k := .stationStatus) hslot rfl rfl (serveStationStatus_of_station hst p _)
      ((stationReport_frames _ _).trans ?_)
    simp only [bigEndian_two, bigEndian_four]
    cases (s.station st).resume <;> cases (s.station st).lastComplete <;> rfl
  · exact exec_command_of_plainAnswer (k := .readEntry) (r := .notFound) hslot rfl rfl
      (serveReadEntry_of_none p _ (entry_eq_none hnone))
  · have hentry := hseq ▸ entry_of_mem hok he
    refine exec_command_of_okAnswer (k := .readEntry) hslot rfl rfl (serveReadEntry_of_entry p _ hentry)
      ((entryReport_frames e).trans ?_)
    simp only [stampBytes, bigEndian_two, bigEndian_four]
    cases e.firstActive <;> cases e.lastActive <;> rfl
  · refine exec_readRow_of_outside hslot (rowBytes_of_outside ?_)
    simpa [← BitVec.toNat_inj] using hout
  iterate 4
    rintro rfl i hi
    exact exec_readRow_of_row hslot (rowBytes_of_row hi _)
  · rintro rfl rfl
    exact exec_readRow_of_row hslot rfl

end Sys2Proof.Machine

/-! PROOFS. The requests that set the streamer and the notices, the looks of both streams, and notices: O51, O52
and O60. -/

namespace Sys2Proof.Machine

variable {s : State} {p : Port} {code b1 b2 b3 b4 : Byte} {rest : List Byte}

/-! ### EXPORT (R166) -/

/-- A byte is a flag that is set unless it is 0x00 (Table 13.4). -/
theorem decide_toNat_ne_zero (b : Byte) : decide (b.toNat ≠ 0) = decide (b ≠ 0) :=
  decide_eq_decide.2 (not_congr (BitVec.toNat_inj (y := 0#8)))

theorem filterOf_station (st : StationNo) : filterOf st.val = some (some st) := by
  have hall : st.val ≠ 255 := by omega
  rw [filterOf, if_neg hall, finOf_val, Option.map_some]

theorem filterOf_of_le {n : Nat} (h : 48 ≤ n) (hall : n ≠ 255) : filterOf n = none := by
  rw [filterOf, if_neg hall, finOf_of_le h, Option.map_none]

theorem serveExport_of_busy {filter flag : Byte} (h : s.streamer.state ≠ .idle) :
    serveExport s p (code :: b1 :: b2 :: b3 :: b4 :: filter :: flag :: rest) = plainAnswer s .busy := by
  rw [serveExport, needBytes_of_le (by simp), if_pos h]

theorem serveExport_of_outside {filter flag : Byte} (h : s.streamer.state = .idle)
    (hfilter : filterOf filter.toNat = none) :
    serveExport s p (code :: b1 :: b2 :: b3 :: b4 :: filter :: flag :: rest) = plainAnswer s .badArg := by
  have hbyte : filterOf (stagedByte (code :: b1 :: b2 :: b3 :: b4 :: filter :: flag :: rest) 5) = none := hfilter
  rw [serveExport, needBytes_of_le (by simp), if_neg (not_not.2 h), hbyte]

theorem serveExport_of_filter {filter flag : Byte} {f : Option StationNo} (h : s.streamer.state = .idle)
    (hfilter : filterOf filter.toNat = some f) :
    serveExport s p (code :: b1 :: b2 :: b3 :: b4 :: filter :: flag :: rest) =
      plainAnswer { s with streamer := { s.streamer with
        state := .streaming, kind := .entries, port := p
        cursor := max 1 (((b1.toNat * 256 + b2.toNat) * 256 + b3.toNat) * 256 + b4.toNat)
        filter := f, changedOnly := decide (flag ≠ 0), sent := 0 } } .ok := by
  have hbyte : filterOf (stagedByte (code :: b1 :: b2 :: b3 :: b4 :: filter :: flag :: rest) 5) = some f := hfilter
  have hflag : decide (stagedByte (code :: b1 :: b2 :: b3 :: b4 :: filter :: flag :: rest) 6 ≠ 0) =
      decide (flag ≠ 0) :=
    decide_toNat_ne_zero flag
  have hcursor : ∀ n : Nat, (if n = 0 then 1 else n) = max 1 n := fun n => by split <;> omega
  rw [serveExport, needBytes_of_le (by simp), if_neg (not_not.2 h), hbyte]
  simp only [hflag, hcursor, stagedField_four]
  rfl

/-! ### SNAPSHOT (R169) -/

theorem serveSnapshot_of_busy (h : s.streamer.state ≠ .idle) :
    serveSnapshot s p (code :: b1 :: b2 :: b3 :: b4 :: rest) = plainAnswer s .busy := by
  rw [serveSnapshot, needBytes_of_le (by simp), if_pos h]

theorem serveSnapshot_of_none (h : s.streamer.state = .idle)
    (hslot : (s.entry (((b1.toNat * 256 + b2.toNat) * 256 + b3.toNat) * 256 + b4.toNat)).bind (·.slot) = none) :
    serveSnapshot s p (code :: b1 :: b2 :: b3 :: b4 :: rest) = plainAnswer s .notFound := by
  rw [serveSnapshot, needBytes_of_le (by simp), if_neg (not_not.2 h), stagedField_four, hslot]

theorem serveSnapshot_of_slot {i : SlotNo} (h : s.streamer.state = .idle)
    (hslot : (s.entry (((b1.toNat * 256 + b2.toNat) * 256 + b3.toNat) * 256 + b4.toNat)).bind (·.slot) = some i) :
    serveSnapshot s p (code :: b1 :: b2 :: b3 :: b4 :: rest) = plainAnswer
      (startSnapshot s p (((b1.toNat * 256 + b2.toNat) * 256 + b3.toNat) * 256 + b4.toNat) i) .ok := by
  rw [serveSnapshot, needBytes_of_le (by simp), if_neg (not_not.2 h), stagedField_four, hslot]
  rfl

/-- Settles O60: each request by the plain answer that serving it gives. -/
theorem streamRequestsSetTheStreamer : Obligations.StreamRequestsSetTheStreamer := by
  intro s p b1 b2 b3 b4 rest seq
  refine ⟨fun filter flag hslot => ⟨fun hbusy => ?_,
      fun hidle => ⟨fun hout hall => ?_, fun hall => ?_, fun st hst => ?_⟩⟩,
    fun hslot => ⟨fun hbusy => ?_, fun hidle => ⟨fun hbare => ?_, fun hok e he hseq i hi => ?_⟩⟩,
    fun hslot => ?_⟩
  · exact exec_command_of_plainAnswer (k := .exportStart) (r := .busy) hslot rfl rfl (serveExport_of_busy hbusy)
  · have hfilter := filterOf_of_le hout fun h => hall (BitVec.eq_of_toNat_eq h)
    exact exec_command_of_plainAnswer (k := .exportStart) (r := .badArg) hslot rfl rfl
      (serveExport_of_outside hidle hfilter)
  · subst hall
    exact exec_command_of_plainAnswer (k := .exportStart) (r := .ok) hslot rfl rfl (serveExport_of_filter hidle rfl)
  · have hfilter : filterOf filter.toNat = some (some st) := hst ▸ filterOf_station st
    exact exec_command_of_plainAnswer (k := .exportStart) (r := .ok) hslot rfl rfl
      (serveExport_of_filter hidle hfilter)
  · exact exec_command_of_plainAnswer (k := .snapshot) (r := .busy) hslot rfl rfl (serveSnapshot_of_busy hbusy)
  · exact exec_command_of_plainAnswer (k := .snapshot) (r := .notFound) hslot rfl rfl
      (serveSnapshot_of_none hidle (entry_slot_eq_none hbare))
  · have hentry : (s.entry seq).bind (·.slot) = some i := by
      rw [← hseq, entry_of_mem hok he, Option.bind_some, hi]
    exact exec_command_of_plainAnswer (k := .snapshot) (r := .ok) hslot rfl rfl (serveSnapshot_of_slot hidle hentry)
  · exact exec_command_of_plainAnswer (k := .exportStop) (r := .ok) hslot rfl rfl rfl

end Sys2Proof.Machine

/-! ### Notices -/

namespace Sys2Proof.Machine

variable {s : State} {code on port interval : Byte} {rest : List Byte}

/-! ### NOTICES (R170) -/

theorem serveNotices_of_outside (p : Port) (h : 2 < port.toNat ∨ interval = 0) :
    serveNotices s p (code :: on :: port :: interval :: rest) = plainAnswer s .badArg := by
  have hport : stagedByte (code :: on :: port :: interval :: rest) 2 = port.toNat := rfl
  have hinterval : stagedByte (code :: on :: port :: interval :: rest) 3 = interval.toNat := rfl
  rw [serveNotices, needBytes_of_le (by simp), hport, hinterval]
  cases hq : finOf 3 port.toNat with
  | none => rfl
  | some q =>
    have hzero : interval.toNat = 0 := by
      rcases h with h | rfl
      · rw [finOf_of_le h] at hq
        cases hq
      · rfl
    exact if_pos hzero

theorem serveNotices_of_port (p : Port) {q : Port} (hq : q.val = port.toNat) (h : interval ≠ 0) :
    serveNotices s p (code :: on :: port :: interval :: rest) = plainAnswer { s with tables := { s.tables with
      general := { s.general with
        noticeEnable := decide (on ≠ 0), noticePort := q, noticeInterval := 100 * interval.toNat } } } .ok := by
  have hport : finOf 3 (stagedByte (code :: on :: port :: interval :: rest) 2) = some q := finOf_eq_some_iff.2 hq.symm
  have hinterval : stagedByte (code :: on :: port :: interval :: rest) 3 ≠ 0 := fun h0 => h (BitVec.eq_of_toNat_eq h0)
  have hon : decide (stagedByte (code :: on :: port :: interval :: rest) 1 ≠ 0) = decide (on ≠ 0) :=
    decide_toNat_ne_zero on
  rw [serveNotices, needBytes_of_le (by simp), hport]
  simp only [if_neg hinterval, hon]
  rfl

/-! ### QUEUE_NOTICE (R171) -/

theorem noticeDue_iff (hawake : s.retention.power ≠ .sleep) :
    s.noticeDue = true ↔ s.general.noticeEnable = true ∧ s.notice.count ≠ 0 ∧ s.notice.timer = none ∧
      0 < s.freePlaces s.general.noticePort := by
  simp [State.noticeDue, hawake, and_assoc]

theorem managementFrame_noticeFrame {n : Nat} (h : s.notice.latest = some n) :
    s.managementFrame (noticeFrame s.notice) = dataFrame s.general.responseId
      [0x1E, BitVec.ofNat 8 (n / 16777216), BitVec.ofNat 8 (n / 65536), BitVec.ofNat 8 (n / 256), BitVec.ofNat 8 n,
        BitVec.ofNat 8 s.notice.count, 0, 0] := by
  rw [noticeFrame, h, Option.getD_some, bigEndian_four]
  rfl

/-- Settles O52: a notice is queued just when `State.noticeDue` holds, and NOTICES is answered plainly. -/
theorem noticesAreCountedAndSent : Obligations.NoticesAreCountedAndSent := by
  refine ⟨fun s hawake => ⟨fun hnot => ?_, fun hdue n hlatest => ?_⟩,
    fun s p on port interval rest hslot => ⟨fun hout => ?_, fun q hq hinterval => ?_⟩⟩
  · exact congrArg Host.Outcome.next (if_neg (mt (noticeDue_iff hawake).1 hnot))
  · refine (congrArg Host.Outcome.next (if_pos ((noticeDue_iff hawake).2 hdue))).trans ?_
    rw [managementFrame_noticeFrame hlatest]
    rfl
  · exact exec_command_of_plainAnswer (k := .notices) (r := .badArg) hslot rfl rfl (serveNotices_of_outside p hout)
  · exact exec_command_of_plainAnswer (k := .notices) (r := .ok) hslot rfl rfl (serveNotices_of_port p hq hinterval)

end Sys2Proof.Machine

/-! ### Streams -/

namespace Sys2Proof.Machine

variable {s t : State} {e : Entry}

/-! ### When a look acts (R165) -/

theorem State.streams_iff {k : StreamKind} : s.streams k = true ↔
    (s.streamer.state = .streaming ∧ s.okHeld = false) ∧ s.streamer.kind = k := by
  simp [State.streams, and_right_comm]

/-- No stream runs, its OK frame is still held, or it is one of the other kind. -/
theorem State.streams_eq_false {k k' : StreamKind} (hne : k' ≠ k)
    (h : ¬ (s.streamer.state = .streaming ∧ s.okHeld = false) ∨ s.streamer.kind = k') : s.streams k = false := by
  refine Bool.eq_false_iff.2 fun hstreams => ?_
  obtain ⟨hgoing, hkind⟩ := State.streams_iff.1 hstreams
  exact h.elim (· hgoing) fun hother => hne (hother.symm.trans hkind)

theorem lookExport_of_not_streams (h : s.streams .entries = false) : lookExport s = s := by
  rw [lookExport, h, if_neg Bool.false_ne_true]

theorem lookExport_of_few (h : s.freePlaces s.streamer.port < 3) : lookExport s = s := by
  rw [lookExport, if_neg (not_le.2 h), ite_self]

theorem lookSnapshot_of_not_streams (h : s.streams .snapshot = false) : lookSnapshot s = s := by
  rw [lookSnapshot, h, if_neg Bool.false_ne_true]

theorem lookSnapshot_of_finished (hstreams : s.streams .snapshot = true)
    (h : s.streamer.slotLost = true ∨ s.streamer.total ≤ s.streamer.sent) :
    lookSnapshot s = if 1 ≤ s.freePlaces s.streamer.port then endSnapshot s (!s.streamer.slotLost) else s := by
  rw [lookSnapshot, if_pos hstreams]
  cases hlost : s.streamer.slotLost with
  | true => exact if_pos hlost
  | false =>
    have hsent : s.streamer.total ≤ s.streamer.sent := h.resolve_left (by simp [hlost])
    simp [hlost, hsent]

theorem lookSnapshot_of_few (hstreams : s.streams .snapshot = true)
    (h : ¬ (s.streamer.slotLost = true ∨ s.streamer.total ≤ s.streamer.sent))
    (hfew : s.freePlaces s.streamer.port < 3) : lookSnapshot s = s := by
  obtain ⟨hkept, hleft⟩ := not_or.1 h
  simp only [lookSnapshot, if_pos hstreams, if_neg hkept, if_neg hleft, if_neg (not_le.2 hfew)]

theorem lookSnapshot_of_unfinished {f : RingFrame} (hstreams : s.streams .snapshot = true)
    (h : ¬ (s.streamer.slotLost = true ∨ s.streamer.total ≤ s.streamer.sent))
    (hroom : 3 ≤ s.freePlaces s.streamer.port)
    (hf : ((s.slot s.streamer.slot).pre ++ (s.slot s.streamer.slot).post)[s.streamer.sent]? = some f) :
    lookSnapshot s = snapshotFrame s f := by
  obtain ⟨hkept, hleft⟩ := not_or.1 h
  simp only [lookSnapshot, if_pos hstreams, if_neg hkept, if_neg hleft, if_pos hroom, hf]

/-- A look after which the streamer still runs is not followed by a save (R172). -/
theorem checkSleep_of_streaming (h : s.streamer.state = .streaming) : checkSleep s = s :=
  checkSleep_of_busy (readyToSleep_of_streaming (by simp [h]))

/-! ### The entry that a look finds (R166) -/

/-- In a list by rising `f`, the element with the lowest `f` that passes the test is found. -/
theorem find?_eq_some_of_least {α : Type} {l : List α} {f : α → Nat} {test : α → Bool} {a : α}
    (hl : (l.map f).Pairwise (· < ·)) (ha : a ∈ l) (htest : test a = true)
    (hleast : ∀ b ∈ l, test b = true → f a ≤ f b) : l.find? test = some a := by
  obtain ⟨before, behind, rfl⟩ := List.append_of_mem ha
  refine List.find?_eq_some_iff_append.2 ⟨htest, before, behind, rfl, fun b hb => ?_⟩
  obtain ⟨-, -, hrising⟩ := List.pairwise_append.1 (List.pairwise_map.1 hl)
  have hlt : f b < f a := hrising b hb a List.mem_cons_self
  have hfails : test b ≠ true := fun h => absurd (hleast b (List.mem_append_left _ hb) h) (not_le.2 hlt)
  simpa using hfails

/-- Whether the stream is to send the entry yet: it matches, at or above the cursor (R166). -/
def Streamer.Wanted (x : Streamer) (e : Entry) : Prop :=
  x.cursor ≤ e.seq ∧ (x.filter = none ∨ x.filter = some e.station) ∧ (e.changed = true ∨ x.changedOnly = false)

theorem Streamer.wanted_iff {x : Streamer} : (decide (x.cursor ≤ e.seq) && x.wants e) = true ↔ x.Wanted e := by
  unfold Streamer.wants Streamer.Wanted
  cases x.filter with
  | none => simp
  | some st => simp [eq_comm (a := st)]

theorem State.nextExport_eq_none (h : ∀ e ∈ s.store.entries, ¬ s.streamer.Wanted e) : s.nextExport = none :=
  List.find?_eq_none.2 fun e he => mt Streamer.wanted_iff.1 (h e he)

theorem State.nextExport_eq_some (hok : s.store.Ok) (he : e ∈ s.store.entries) (hwanted : s.streamer.Wanted e)
    (hleast : ∀ e' ∈ s.store.entries, s.streamer.Wanted e' → e.seq ≤ e'.seq) : s.nextExport = some e :=
  find?_eq_some_of_least hok.sorted he (Streamer.wanted_iff.2 hwanted) fun e' he' h =>
    hleast e' he' (Streamer.wanted_iff.1 h)

theorem lookExport_of_none (hstreams : s.streams .entries = true) (hroom : 3 ≤ s.freePlaces s.streamer.port)
    (h : s.nextExport = none) : lookExport s = endExport s := by
  rw [lookExport, if_pos hstreams, if_pos hroom, h]

theorem lookExport_of_some (hstreams : s.streams .entries = true) (hroom : 3 ≤ s.freePlaces s.streamer.port)
    (h : s.nextExport = some e) : lookExport s = exportEntry s e := by
  rw [lookExport, if_pos hstreams, if_pos hroom, h]

/-! ### The frames of the streams (Tables 13.3 and 13.6) -/

theorem bigEndian_three (v : Nat) :
    bigEndian 3 v = [BitVec.ofNat 8 (v / 65536), BitVec.ofNat 8 (v / 256), BitVec.ofNat 8 v] := by
  simp [bigEndian]

theorem byte_mod (v : Nat) : byte (v % 256) = byte v := by
  simp [byte, ← BitVec.toNat_inj]

/-- The first bytes of a frame's data, with 0x00 where the frame is shorter. -/
theorem take_append_zeros (bs : List Byte) (n : Nat) :
    (bs ++ List.replicate n 0).take n = (List.range n).map fun i => bs.getD i 0 := by
  refine List.ext_getElem (by simp) fun i h _ => ?_
  rw [List.getElem_take, List.getElem_map, List.getElem_range]
  rcases Nat.lt_or_ge i bs.length with hin | hout
  · rw [List.getElem_append_left hin, List.getD_eq_getElem _ _ hin]
  · rw [List.getElem_append_right hout, List.getElem_replicate, List.getD_eq_default _ _ hout]

theorem flagBit_isSome {α : Type} [DecidableEq α] (w : Nat) (o : Option α) :
    flagBit w o.isSome = if o = none then 0 else w := by
  cases o <;> simp [flagBit]

theorem flagBit_le (w m n : Nat) : flagBit w (decide (m ≤ n)) = if n < m then 0 else w := by
  simp only [flagBit, decide_eq_true_eq, ← not_lt, ite_not]

theorem entryFrameA_eq (e : Entry) : entryFrameA e = byte (0x40 + e.station.val) ::
    (bigEndian 4 e.seq ++ [byte (e.code / 65536), byte (e.code / 256), byte e.code]) := by
  rw [entryFrameA, bigEndian_three]
  rfl

theorem entryFrameB_eq (e : Entry) : entryFrameB e =
    byte (0x80 + 16 * entryStateCode e.state + 2 * e.peak + flagBit 1 e.missed) ::
      (bigEndian 4 e.lastReport ++ [byte (e.total / 256), byte e.total,
        byte (flagBit 64 e.sources.announce + flagBit 128 e.sources.readback + (if e.last = none then 0 else 32) +
          slotCode e.slot)]) := by
  rw [entryFrameB, bigEndian_two, flagBit_isSome]
  rfl

/-- The frame with number `n` of a slot with `m` pre frames. -/
theorem snapshotFirst_eq (x : RingFrame) (m n : Nat) : snapshotFirst x n (decide (m ≤ n)) =
    byte (0x20 + (if n < m then 0 else 16) + n % 16) :: (bigEndian 4 (snapshotId x.frame) ++
      [byte (16 * x.frame.dlc + 4 * (x.c % 256 / 64) + x.ms / 256), byte x.ms, byteAt x.frame.data 7]) := by
  rw [snapshotFirst, flagBit_le, byte_mod]

theorem snapshotSecond_eq (x : RingFrame) : snapshotSecond x =
    byte (0xC0 + x.c % 64) :: (List.range 7).map fun i => x.frame.data.getD i 0 := by
  rw [snapshotSecond, take_append_zeros]

/-- A stream's frame fills its eight bytes. -/
theorem managementFrame_of_length {bs : List Byte} (s : State) (h : bs.length = 8) :
    s.managementFrame bs = dataFrame s.general.responseId bs := by
  rw [State.managementFrame, pad8, List.take_append_of_le_length h.ge, List.take_of_length_le h.le]

/-! ### What a look queues -/

/-- The frames and the state of an ENTRIES stream that goes on (R166). -/
theorem exportEntry_eq (s : State) (e : Entry) : exportEntry s e =
    queueOutput { s with
      streamer := { s.streamer with cursor := e.seq + 1, sent := min 65535 (s.streamer.sent + 1) }
      store := { s.store with entries := s.store.entries.map fun y =>
        if s.streamer.changedOnly = true ∧ y.seq = e.seq then { y with changed := false } else y } }
      s.streamer.port ([entryFrameA e, entryFrameB e].map (dataFrame s.general.responseId)) := by
  rw [exportEntry, managementFrame_of_length s rfl, managementFrame_of_length s rfl]
  cases honly : s.streamer.changedOnly with
  | true =>
    simp [State.modEntries, State.modStore, queueOutput, State.modPort, State.modStreamer, sat16, satAdd]
  | false =>
    simp [queueOutput, State.modPort, State.modStreamer, sat16, satAdd]

theorem endExport_eq (s : State) : endExport s =
    queueOutput { s with streamer := { s.streamer with state := .idle } } s.streamer.port
      [dataFrame s.general.responseId
        (0x1D :: (bigEndian 2 s.streamer.sent ++ bigEndian 4 s.store.nextSeq ++ [0]))] := rfl

/-- The frame and the state at the end of a snapshot stream: the slot is read unless it is lost (R152, R169). -/
theorem endSnapshot_eq (s : State) (lost : Bool) : endSnapshot s (!lost) =
    queueOutput { (if lost then s else s.modSlot s.streamer.slot fun y => { y with read := true }) with
      streamer := { s.streamer with state := .idle } } s.streamer.port
      [dataFrame s.general.responseId
        (0x1F :: (bigEndian 4 s.streamer.owner ++ [byte s.streamer.sent, if lost then 0 else 1, 0]))] := by
  cases lost <;> rfl

theorem snapshotFrame_eq (s : State) (f : RingFrame) : snapshotFrame s f =
    queueOutput { s with streamer := { s.streamer with sent := min 65535 (s.streamer.sent + 1) } } s.streamer.port
      ([snapshotFirst f s.streamer.sent (decide ((s.slot s.streamer.slot).pre.length ≤ s.streamer.sent)),
        snapshotSecond f].map (dataFrame s.general.responseId)) := by
  unfold snapshotFrame
  dsimp only
  rw [managementFrame_of_length s rfl, managementFrame_of_length s (by simp [snapshotSecond])]
  rfl

/-! ### The statement about streams -/

theorem exec_exportLook_of_streaming (h : lookExport s = t) (hstate : t.streamer.state = .streaming) :
    exec .exportLook s = .next t := by
  rw [← checkSleep_of_streaming hstate, ← h]
  rfl

theorem exec_snapshotLook_of_streaming (h : lookSnapshot s = t) (hstate : t.streamer.state = .streaming) :
    exec .snapshotLook s = .next t := by
  rw [← checkSleep_of_streaming hstate, ← h]
  rfl

theorem exec_exportLook_of_not_streams (hbusy : s.readyToSleep = false) (h : s.streams .entries = false) :
    exec .exportLook s = .next s := by
  have hlook : exec .exportLook s = .next (checkSleep (lookExport s)) := rfl
  rw [hlook, lookExport_of_not_streams h, checkSleep_of_busy hbusy]

theorem exec_snapshotLook_of_not_streams (hbusy : s.readyToSleep = false) (h : s.streams .snapshot = false) :
    exec .snapshotLook s = .next s := by
  have hlook : exec .snapshotLook s = .next (checkSleep (lookSnapshot s)) := rfl
  rw [hlook, lookSnapshot_of_not_streams h, checkSleep_of_busy hbusy]

/-- Settles O51: each look by the branch it takes, and each frame by its bytes. -/
theorem streamsQueueTheirFrames : Obligations.StreamsQueueTheirFrames := by
  intro s x b four room going queued
  have hfour : ∀ n, bigEndian 4 n = four n := bigEndian_four
  refine ⟨fun hbusy => ⟨fun h => exec_exportLook_of_not_streams hbusy (State.streams_eq_false (by decide) h),
      fun h => exec_snapshotLook_of_not_streams hbusy (State.streams_eq_false (by decide) h)⟩,
    fun hgoing hkind => ?_, fun hgoing hkind => ?_⟩
  · have hstreams : s.streams .entries = true := State.streams_iff.2 ⟨hgoing, hkind⟩
    refine ⟨fun hfew => ?_, fun hroom hnone => ?_, fun hroom hok e he hwanted hleast => ?_⟩
    · exact exec_exportLook_of_streaming (lookExport_of_few hfew) hgoing.1
    · have hlook := lookExport_of_none hstreams hroom (State.nextExport_eq_none hnone)
      rw [endExport_eq, hfour, bigEndian_two] at hlook
      exact congrArg (fun t => Host.Outcome.next (checkSleep t)) hlook
    · have hlook := lookExport_of_some hstreams hroom (State.nextExport_eq_some hok he hwanted hleast)
      rw [exportEntry_eq, entryFrameA_eq, entryFrameB_eq, hfour, hfour] at hlook
      exact exec_exportLook_of_streaming hlook hgoing.1
  · have hstreams : s.streams .snapshot = true := State.streams_iff.2 ⟨hgoing, hkind⟩
    refine ⟨fun h => ?_, fun hfinished hroom => ?_, fun hunfinished hroom f hf => ?_⟩
    · have hlook : lookSnapshot s = s := by
        rcases h with ⟨hfinished, hfull⟩ | ⟨hunfinished, hfew⟩
        · exact (lookSnapshot_of_finished hstreams hfinished).trans (if_neg (not_le.2 (Nat.lt_one_iff.2 hfull)))
        · exact lookSnapshot_of_few hstreams hunfinished hfew
      exact exec_snapshotLook_of_streaming hlook hgoing.1
    · have hlook := (lookSnapshot_of_finished hstreams hfinished).trans (if_pos hroom)
      rw [endSnapshot_eq, hfour] at hlook
      exact congrArg (fun t => Host.Outcome.next (checkSleep t)) hlook
    · have hlook := lookSnapshot_of_unfinished hstreams hunfinished hroom hf
      rw [snapshotFrame_eq, snapshotFirst_eq, snapshotSecond_eq, hfour] at hlook
      exact exec_snapshotLook_of_streaming hlook hgoing.1

end Sys2Proof.Machine

/-! PROOFS. The queue of commands and the state after reset: O1 and O3. -/

namespace Sys2Proof.Machine

/-- Settles O1: the front of the queue is what `step` looks at first. -/
theorem stepRunsFrontCommand : Obligations.StepRunsFrontCommand := fun _ _ => rfl

/-- The state after reset is one closed state, which the checks of Sys2Proof/Laws evaluate. -/
theorem reset_inv : State.reset.Inv := Laws.inv_of_check (by decide +kernel)

/-- With the array BLANK a power-on takes the defaults, and the key source NONE brings the key-on event (R51, R176). -/
theorem keyOnAtStart_powerOnBase_reset : keyOnAtStart (powerOnBase State.reset) = State.reset := by decide +kernel

/-- Settles O3: the state after reset passes every check of the invariant, and a power-on leads back to it. -/
theorem resetIsInOrder : Obligations.ResetIsInOrder :=
  ⟨reset_inv, rfl, rfl, rfl, rfl, rfl, rfl, rfl, rfl, rfl, rfl,
    congrArg Host.Outcome.next keyOnAtStart_powerOnBase_reset⟩

end Sys2Proof.Machine

/-! PROOFS. The sleep delay, the save and the entry into SLEEP: O47. -/

namespace Sys2Proof.Machine

variable {s t : State}

/-! ### The conditions of sleep entry (R172) -/

theorem State.allFree_iff : s.allFree = true ↔ ∀ c, s.context c = none := by
  simp [State.allFree, allContexts]

theorem State.readyToSleep_iff : s.readyToSleep = true ↔
    s.retention.power = .run ∧ s.retention.sleepTimer = .expired ∧ s.Quiet := by
  simp only [State.readyToSleep, State.Quiet, Bool.and_eq_true, decide_eq_true_eq, Option.isNone_iff_eq_none,
    Bool.not_eq_true']
  tauto

/-! ### The entry into SAVING -/

theorem execSleepDelayExpiry_of_running {n : Nat} (h : s.retention.sleepTimer = .running n) :
    exec .sleepDelayExpiry s =
      .next (checkSleep { s with retention := { s.retention with sleepTimer := .expired } }) := by
  simp only [exec, execSleepDelayExpiry, h]
  rfl

theorem execSleepDelayExpiry_of_not_running (h : ∀ n, s.retention.sleepTimer ≠ .running n) :
    exec .sleepDelayExpiry s = .next s := by
  cases hsleep : s.retention.sleepTimer with
  | running n => exact absurd hsleep (h n)
  | stopped | expired => simp only [exec, execSleepDelayExpiry, hsleep]

theorem checkSleep_of_ready (h : s.readyToSleep = true) : checkSleep s = enterSaving s := if_pos h

/-! ### The entry into SLEEP (R173) -/

/-- A port at the entry into SLEEP, field by field. -/
theorem PortUnit.sleep_eq (x : PortUnit) (row : PortRow) : x.sleep row = { x with
    tx := none, forward := [], harvest := [], output := []
    state := if row.enable = true then .dormant else x.state
    txErrors := if row.enable = true ∧ x.state = .busOff then 0 else x.txErrors
    rxErrors := if row.enable = true ∧ x.state = .busOff then 0 else x.rxErrors } := by
  unfold PortUnit.sleep PortUnit.flushed
  by_cases henable : row.enable = true
  · by_cases hoff : x.state = .busOff <;> simp [henable, hoff]
  · simp [henable]

/-- The entry into SLEEP, block by block. -/
theorem enterSleep_eq (s : State) : enterSleep s = { s with
    ports := (modAllPorts s PortUnit.sleep).ports
    management := { s.management with slot := .empty }
    survey := { s.survey with
      due := Vector.replicate 3 DueQueue.empty
      stations := mapAll (fun x => if x.run = .due then { x with run := .idle, urgent := false } else x)
        s.survey.stations
      grace := none }
    snapshots := { s.snapshots with slots := mapAll Slot.finish s.snapshots.slots }
    clock := { s.clock with keyLoss := none }
    retention := { s.retention with power := .sleep, sleepTimer := .stopped } } := by
  have hports := modAllPorts_eq s PortUnit.sleep
  generalize (modAllPorts s PortUnit.sleep).ports = ports at hports ⊢
  rw [enterSleep, hports]
  rfl

theorem enterSleep_port (s : State) (p : Port) : (enterSleep s).port p = (s.port p).sleep (s.portRow p) := by
  rw [enterSleep_eq]
  exact modAllPorts_port s PortUnit.sleep p

theorem enterSleep_due (s : State) (p : Port) : (enterSleep s).due p = DueQueue.empty := by
  rw [enterSleep_eq]
  exact Vector.get_replicate ..

theorem enterSleep_station (s : State) (n : StationNo) : (enterSleep s).station n =
    if (s.station n).run = .due then { s.station n with run := .idle, urgent := false } else s.station n := by
  rw [enterSleep_eq]
  exact mapAll_get ..

theorem enterSleep_slot (s : State) (i : SlotNo) : (enterSleep s).slot i = (s.slot i).finish := by
  rw [enterSleep_eq]
  exact mapAll_get ..

/-- The image once the save is complete: C and K are given anew, and the mark is VALID (R173). -/
def State.saveWritten (s : State) : State :=
  s.modRetention fun r => { r with mark := .valid, image := { r.image with c := s.clock.c, k := s.clock.k } }

theorem execSaveComplete_of_saving (h : s.retention.power = .saving) :
    exec .saveComplete s = .next (enterSleep s.saveWritten) := if_pos h

theorem execSaveComplete_of_not_saving (h : s.retention.power ≠ .saving) : exec .saveComplete s = .next s := if_neg h

/-- Settles O47: the expiry is followed by the check of R172, and a completed save by the entry into SLEEP. -/
theorem savingAndSleep : Obligations.SavingAndSleep := by
  refine ⟨?_, fun s => execSleepDelayExpiry_of_not_running, fun s => execSaveComplete_of_not_saving,
    fun s hsaving => ⟨_, execSaveComplete_of_saving hsaving, ?_⟩⟩
  · intro s n hruns expired may
    have hready : expired.readyToSleep = true ↔ may := by
      rw [State.readyToSleep_iff, State.Quiet, State.allFree_iff]
      exact ⟨fun ⟨hpower, _, hquiet⟩ => ⟨hpower, hquiet⟩, fun ⟨hpower, hquiet⟩ => ⟨hpower, rfl, hquiet⟩⟩
    rw [execSleepDelayExpiry_of_running hruns]
    refine ⟨fun hbusy => ?_, fun hmay => ?_⟩
    · rw [checkSleep_of_busy (Bool.eq_false_iff.2 (mt hready.1 hbusy))]
    · rw [checkSleep_of_ready (hready.2 hmay)]
      rfl
  · refine ⟨?_, fun p => ?_, ?_, enterSleep_due _, enterSleep_station _, ?_⟩
    · rw [enterSleep_eq]
      rfl
    · rw [enterSleep_port, PortUnit.sleep_eq]
      rfl
    · rw [enterSleep_eq]
      rfl
    · rw [enterSleep_eq]
      exact ⟨rfl, rfl, rfl, rfl, fun i => mapAll_get .., rfl, rfl, rfl, rfl, rfl, rfl, rfl⟩

end Sys2Proof.Machine

/-! PROOFS. The states of the ports, of which only the entry into SLEEP makes one DORMANT: O10. -/

namespace Sys2Proof.Machine

variable {s t : State} {p : Port}

/-! ### The states of the ports -/

/-- The state of each port. -/
def State.lines (s : State) (p : Port) : PortState := (s.port p).state

theorem State.lines_of_ports (h : t.ports = s.ports) : t.lines = s.lines :=
  funext fun p => congrArg PortUnit.state (State.port_eq h p)

theorem State.lines_of_berth (h : t.berth = s.berth) : t.lines = s.lines :=
  funext fun p => congrArg (fun b : PortRow × PortUnit => b.2.state) (congrFun h p)

theorem modPort_lines {f : PortUnit → PortUnit} (h : ∀ x, (f x).state = x.state) : (s.modPort p f).lines = s.lines := by
  funext q
  rw [State.lines, State.modPort_port]
  split
  · exact h _
  · rfl

/-! ### Operations that leave the states of the ports -/

theorem queueOutput_lines (s : State) (p : Port) (fs : List Frame) : (queueOutput s p fs).lines = s.lines :=
  modPort_lines fun _ => rfl

theorem respond_lines (s : State) (p : Port) (frames : List (List Byte)) : (respond s p frames).lines = s.lines :=
  queueOutput_lines s p _

theorem countStray_lines (s : State) (p : Port) : (countStray s p).lines = s.lines := modPort_lines fun _ => rfl

theorem countMalformed_lines (s : State) (p : Port) : (countMalformed s p).lines = s.lines :=
  modPort_lines fun _ => rfl

theorem forwardFrame_lines (s : State) (p : Port) (f : Frame) (route : PortSet) :
    (forwardFrame s p f route).lines = s.lines := by
  refine foldl_keeps State.lines _ (fun t q => ?_) _ s
  split
  · exact modPort_lines fun x => x.offerForward_state f
  · rfl

theorem takeReply_lines (s : State) (p : Port) (row : IdentRow) (data : List Byte) :
    (takeReply s p row data).lines = s.lines := by
  unfold takeReply giveReply
  (repeat' split)
  · exact countMalformed_lines s p
  · exact countStray_lines s p
  · exact countStray_lines s p
  · exact State.lines_of_berth (takeHeader_berth s _ _ _)
  · exact State.lines_of_berth (takeRecord_berth s _ _ _ _)
  all_goals exact countStray_lines s p

theorem takeManage_lines (s : State) (p : Port) (data : List Byte) : (takeManage s p data).lines = s.lines := by
  unfold takeManage takeRequest
  (repeat' split)
  · rfl
  · exact queueOutput_lines s p _
  · rfl
  · exact queueOutput_lines s p _
  · rfl
  · rfl

theorem handOn_lines (s : State) (p : Port) (f : Frame) (row : IdentRow) : (handOn s p f row).lines = s.lines := by
  unfold handOn
  split
  · rfl
  cases row.cls with
  | pass => rfl
  | announce =>
    unfold takeAnnouncement
    dsimp only
    split
    · exact State.lines_of_berth (takeMerge_berth s _)
    · exact countMalformed_lines s p
  | reply => exact takeReply_lines s p row f.data
  | key =>
    unfold takeKey
    dsimp only
    split
    · exact State.lines_of_berth (keyValue_berth s _ _ _)
    · exact countMalformed_lines s p
  | time =>
    unfold takeTime
    dsimp only
    split
    · exact State.lines_of_ports (by simp)
    · exact countMalformed_lines s p
  | manage => exact takeManage_lines s p f.data

theorem queueHeld_lines (s : State) : (queueHeld s).lines = s.lines := by
  unfold queueHeld
  split
  · split
    · exact queueOutput_lines s _ _
    · rfl
  all_goals rfl

theorem lookExport_lines (s : State) : (lookExport s).lines = s.lines := by
  unfold lookExport
  (repeat' split)
  · unfold exportEntry
    dsimp only
    split <;> exact queueOutput_lines s _ _
  · exact queueOutput_lines s _ _
  · rfl
  · rfl

theorem lookSnapshot_lines (s : State) : (lookSnapshot s).lines = s.lines := by
  have hend : ∀ complete, (endSnapshot s complete).lines = s.lines := fun complete => by
    cases complete <;> exact queueOutput_lines s _ _
  unfold lookSnapshot
  dsimp only
  (repeat' split)
  · exact hend false
  · rfl
  · exact hend true
  · rfl
  · exact queueOutput_lines s _ _
  all_goals rfl

theorem queueNotice_lines (s : State) : (queueNotice s).lines = s.lines := by
  unfold queueNotice
  split
  · exact queueOutput_lines s _ _
  · rfl

theorem passMillisecond_lines (s : State) : (passMillisecond s).lines = s.lines := by
  unfold passMillisecond
  dsimp only
  split
  · rfl
  · funext p
    have hport : (runTimers (s.modClock Clock.millisecond)).port p = if (s.port p).state.serves then
        { s.port p with guardTimer := tickTimer (s.port p).guardTimer } else s.port p := mapAll_get ..
    rw [State.lines, hport]
    split <;> rfl

/-! ### Parts without a DORMANT port -/

/-- No port is DORMANT. -/
def State.Roused (s : State) : Prop := ∀ p, s.lines p ≠ .dormant

theorem State.Roused.of_lines (h : s.Roused) (hsame : t.lines = s.lines) : t.Roused := fun p => hsame ▸ h p

theorem State.Roused.of_berth (h : s.Roused) (hsame : t.berth = s.berth) : t.Roused :=
  h.of_lines (State.lines_of_berth hsame)

theorem State.Roused.of_ports (h : s.Roused) (hsame : t.ports = s.ports) : t.Roused :=
  h.of_lines (State.lines_of_ports hsame)

theorem State.Roused.modPort (h : s.Roused) {f : PortUnit → PortUnit} (hf : (f (s.port p)).state ≠ .dormant) :
    (s.modPort p f).Roused := fun q => by
  rw [State.lines, State.modPort_port]
  split
  · next hq => exact hq ▸ hf
  · exact h q

/-- A port that starts afresh is JOINING or OFF. -/
theorem startState_ne_dormant (b : Bool) : (if b then PortState.joining else .off) ≠ .dormant := by
  cases b <;> decide

theorem PortUnit.confined_ne_dormant {x : PortUnit} (h : x.state ≠ .dormant) : x.confined ≠ .dormant := by
  unfold PortUnit.confined
  cases hx : x.state with
  | active => dsimp only; split <;> decide
  | passive => dsimp only; split <;> decide
  | dormant => exact absurd hx h
  | off | joining | busOff | listen => exact nofun

theorem PortUnit.busIdleState_ne_dormant (x : PortUnit) (row : PortRow) : x.busIdleState row ≠ .dormant := by
  unfold PortUnit.busIdleState
  (repeat' split) <;> decide

theorem changeErrors_roused (h : s.Roused) {f : PortUnit → PortUnit} (hf : ∀ x, (f x).state = x.state) :
    (changeErrors s p f).Roused := by
  refine State.Roused.of_berth (h.modPort ?_) (changeErrors_yieldOnly s p f).berth
  exact PortUnit.confined_ne_dormant ((hf _).symm ▸ h p)

theorem takeArrival_roused (h : s.Roused) (p : Port) (f : Frame) : (takeArrival s p f).Roused := by
  have hseen : (arrivalLowersRec (arrivalSeen s) p).Roused := by
    have hs : (arrivalSeen s).Roused := h.of_ports (by simp)
    unfold arrivalLowersRec
    split
    · exact changeErrors_roused hs fun _ => rfl
    · exact hs
  unfold takeArrival
  dsimp only
  set seen := arrivalLowersRec (arrivalSeen s) p
  split
  · exact hseen.of_lines (forwardFrame_lines seen p f _)
  next row _ =>
  have hgiven : (handOn (if row.cls = .manage then seen else forwardFrame seen p f row.route) p f row).Roused := by
    refine hseen.of_lines ((handOn_lines _ p f row).trans ?_)
    split
    · rfl
    · exact forwardFrame_lines seen p f _
  split
  · exact hgiven.of_ports (by simp)
  · exact hgiven

theorem frameSent_roused (h : s.Roused) (p : Port) : (frameSent s p).Roused := by
  unfold frameSent
  (repeat' split)
  · exact h
  · refine State.Roused.of_ports (changeErrors_roused h (p := p) (f := fun u =>
      { u with tx := none, txErrors := u.txErrors - 1 }) fun _ => rfl) (by simp)
  · exact h

theorem frameFailed_roused (h : s.Roused) (p : Port) : (frameFailed s p).Roused := by
  unfold frameFailed
  (repeat' split)
  · exact h
  · have hraised : (s.modPort p fun u => { u with txErrors := u.txErrors + 8 }).Roused :=
      h.of_lines (modPort_lines fun _ => rfl)
    exact State.Roused.of_berth (hraised.modPort (p := p) (f := PortUnit.enterBusOff) nofun) (enterBusOff_berth _ p)
  · exact changeErrors_roused h fun _ => rfl
  · exact h

/-! ### Power and requests -/

theorem modAllPorts_roused {f : PortUnit → PortRow → PortUnit} (hf : ∀ x row, (f x row).state ≠ .dormant) :
    (modAllPorts s f).Roused := fun p => by
  rw [State.lines, modAllPorts_port]
  exact hf _ _

theorem powerOnBase_roused (s : State) : (powerOnBase s).Roused := fun p => by
  rw [State.lines, powerOnBase_port]
  exact startState_ne_dormant _

theorem wakeUp_roused (s : State) : (wakeUp s).Roused := by
  have hports : (modAllPorts s PortUnit.wake).Roused := modAllPorts_roused fun x row => startState_ne_dormant row.enable
  refine hports.of_ports ?_
  rw [wakeUp_eq]

theorem applyPortRow_roused (h : s.Roused) (p : Port) (row : PortRow) : (applyPortRow s p row).Roused := by
  set base := (s.modTables fun t => { t with ports := modifyAt t.ports p fun _ => row }).modPort p fun u =>
    { u.flushed.arbiterReset with state := if row.enable then .joining else .off, txErrors := 0, rxErrors := 0 }
  have hbase : base.Roused :=
    State.Roused.modPort (s := s.modTables fun t => { t with ports := modifyAt t.ports p fun _ => row }) h
      (startState_ne_dormant row.enable)
  refine hbase.of_berth ?_
  rw [applyPortRow, (settleLook_yieldOnly _ s).berth, pauseStream_berth, losePort_berth]

theorem softReset_roused (s : State) : (softReset s).Roused := by
  have hports : (modAllPorts (cutAll s.resetting) PortUnit.softReset).Roused :=
    modAllPorts_roused fun x row => startState_ne_dormant row.enable
  rw [softReset_eq]
  exact hports.of_berth (finishSlots_berth _ 2)

theorem needBytes_roused {k : Nat} {data : List Byte} {a : Answer} (h : s.Roused) (ha : a.state.Roused) :
    (needBytes k s data a).state.Roused := by
  unfold needBytes
  split
  · exact h
  · exact ha

theorem commitRow_roused (h : s.Roused) (table row : Nat) : (commitRow s table row).state.Roused := by
  have happly : ∀ {α : Type} (x : Option α) (f : α → State), (∀ a, (f a).Roused) →
      (applyDecoded s x f).state.Roused := by
    intro α x f hf
    cases x with
    | none => exact h
    | some a => exact hf a
  unfold commitRow
  dsimp only
  (repeat' split)
  · exact happly _ _ fun _ => h
  · exact h
  · exact h.of_berth (applyOrDefer_berth s _)
  · exact h
  · exact h.of_berth (applyOrDefer_berth s _)
  · exact h
  · exact happly _ _ fun r => applyPortRow_roused h _ r
  · exact h
  · exact happly _ _ fun r => h.of_berth (applyGeneral_berth s r)
  · exact h
  · exact h

/-- No request makes a port DORMANT. -/
theorem effect_roused (k : RequestKind) (h : s.Roused) (p : Port) (data : List Byte) :
    (k.effect s p data).state.Roused := by
  cases k with
  | commit =>
    refine needBytes_roused h ?_
    split
    · exact h
    · exact commitRow_roused h _ _
  | softReset => exact softReset_roused s
  | surveyStop => exact h.of_berth (stopSurvey_berth s)
  | recover =>
    refine needBytes_roused h ?_
    (repeat' split)
    · exact h
    · exact h.modPort nofun
    · exact h
  | readNow =>
    refine needBytes_roused h ?_
    (repeat' split)
    · exact h
    · exact h
    · exact h
    · exact h.of_ports (by simp [okAnswer])
  | surveyStart =>
    refine needBytes_roused h ?_
    split
    · exact h.of_berth (startSurvey_berth s _)
    · exact h
  | clear | release =>
    refine needBytes_roused h ?_
    split
    · exact h.of_ports (by simp [okAnswer])
    · exact h
  | clearAll => exact h.of_ports (by simp [RequestKind.effect, serveClearAll, okAnswer])
  | unknown | status | portStatus | stationStatus | readRow | readEntry | stage | setClock | exportStart | exportStop
  | snapshot | notices =>
    simp only [RequestKind.effect, serveUnknown, serveStatus, servePortStatus, serveStationStatus, serveReadRow,
      serveReadEntry, serveStage, serveSetClock, serveExport, serveExportStop, serveSnapshot, serveNotices, needBytes,
      okAnswer, plainAnswer]
    (repeat' split) <;> exact h

theorem serve_roused (k : RequestKind) (h : s.Roused) : (serve s k k.effect).Roused := by
  unfold serve
  (repeat' split)
  · exact (effect_roused k h _ _).of_lines (respond_lines _ _ _)
  all_goals exact h

/-! ### Every command -/

/-- Only the entry into SLEEP makes a port DORMANT (R173). -/
theorem exec_roused (i : Instr) (hi : i ≠ .saveComplete) (h : s.Roused) : Leads (exec i s) State.Roused := by
  have hstay : Leads (.next s) State.Roused := leads_next.2 h
  have hlines : ∀ {t : State}, t.lines = s.lines → Leads (.next t) State.Roused := fun k => leads_next.2 (h.of_lines k)
  have hkept : ∀ {t : State}, t.berth = s.berth → Leads (.next t) State.Roused := fun k => leads_next.2 (h.of_berth k)
  have hchecked : ∀ {t : State}, t.Roused → Leads (.next (checkSleep t)) State.Roused := fun {t} k =>
    leads_next.2 (k.of_ports (by simp))
  cases i with
  | saveComplete => exact absurd rfl hi
  | powerOn => exact leads_next.2 ((powerOnBase_roused s).of_berth (keyOnAtStart_berth _))
  | arrival p f =>
    simp only [exec, execArrival]
    (repeat' split)
    · exact leads_next.2 (takeArrival_roused h p f)
    · exact hstay
    · exact leads_refused
  | receiveError p =>
    simp only [exec, execReceiveError]
    split
    · exact leads_next.2 (changeErrors_roused h fun _ => rfl)
    · exact hstay
  | transmissionSent p => exact leads_next.2 (frameSent_roused h p)
  | transmissionFailed p => exact hchecked (frameFailed_roused h p)
  | lostArbitration => exact hstay
  | busIdle p =>
    have hjoined : (s.modPort p fun u => { u with state := u.busIdleState (s.portRow p) }).Roused :=
      h.modPort (PortUnit.busIdleState_ne_dormant _ _)
    simp only [exec, execBusIdle]
    (repeat' split)
    · exact leads_next.2 (hjoined.of_berth (lookCheck_berth _))
    · exact leads_next.2 hjoined
    · exact hstay
  | recoveryEvent p =>
    simp only [exec, execRecoveryEvent]
    split
    · exact leads_next.2 (h.modPort nofun)
    · exact hstay
  | transmitChoice p => exact hlines (modPort_lines fun x => x.choose_state _)
  | guardTimerExpiry p => exact hlines (modPort_lines fun x => by split <;> rfl)
  | grant =>
    simp only [exec, execGrant]
    split
    · next g _ =>
      have habandoned : (abandonSave s).berth = s.berth := State.berth_of_same (by simp) (by simp)
      exact hkept ((lookCheck_berth _).trans ((bindContext_berth _ g).trans habandoned))
    · exact hstay
  | waitTimerExpiry c =>
    simp only [exec, execWaitTimerExpiry]
    (repeat' split)
    · exact hchecked (h.of_berth (retryPoint_berth s c))
    · exact hstay
    · exact hstay
  | keyLossTimerExpiry =>
    simp only [exec, execKeyLossTimerExpiry]
    (repeat' split)
    · exact hstay
    · exact hkept (keyOffEvent_berth _)
    · exact hkept rfl
  | roundTick =>
    simp only [exec, execRoundTick]
    (repeat' split)
    · exact hkept ((raiseRound_berth _).trans (endRound_berth s))
    · exact hkept (endRound_berth s)
    · exact hkept (raiseRound_berth s)
    · exact hstay
  | roundEnd =>
    simp only [exec, execRoundEnd]
    split
    · exact hkept (endRound_berth s)
    · exact hstay
  | keyOffGraceExpiry =>
    simp only [exec, execKeyOffGraceExpiry]
    split
    · exact hchecked (h.of_berth (cutAll_berth _))
    · exact hstay
  | captureTrigger k =>
    simp only [exec, execCaptureTrigger]
    (repeat' split)
    · exact hstay
    · exact leads_next.2 (h.of_ports (by simp))
    · exact hstay
  | sleepDelayExpiry =>
    simp only [exec, execSleepDelayExpiry]
    split
    · exact hchecked h
    · exact hstay
    · exact hstay
  | wake p =>
    simp only [exec, execWake]
    split
    · exact leads_next.2 ((wakeUp_roused s).of_berth (keyOnAtStart_berth _))
    · exact hstay
  | internalTick | holdTimerExpiry | postWindowExpiry | noticeIntervalExpiry => exact hkept rfl
  | queueHeldResponse => exact hlines (queueHeld_lines s)
  | exportLook => exact hchecked (h.of_lines (lookExport_lines s))
  | snapshotLook => exact hchecked (h.of_lines (lookSnapshot_lines s))
  | queueNotice => exact hlines (queueNotice_lines s)
  | unknownRequest | status | portStatus | stationStatus | readRow | readEntry | stage | commit | softReset
  | surveyStart | surveyStop | readNow | setClock | recover | clear | clearAll | exportStart | exportStop | snapshot
  | release | notices => exact hchecked (serve_roused _ h)

end Sys2Proof.Machine

/-! PROOFS. What holds a save back, and that every command keeps a part outside SLEEP in order: O10. -/

namespace Sys2Proof.Machine

variable {s t u : State} {p : Port}

/-! ### What holds a save back -/

/-- What the conditions of sleep entry read outside the retention unit (R172). -/
def State.obstacles (s : State) : KeyState × Bool × Bool × Option PendingCommit × Bool :=
  (s.clock.key, s.allFree, decide (s.streamer.state = .idle), s.management.pendingCommit, s.serving)

theorem State.obstacles_eq (hkey : t.clock.key = s.clock.key) (hfree : t.allFree = s.allFree)
    (hstream : decide (t.streamer.state = .idle) = decide (s.streamer.state = .idle))
    (hcommit : t.management.pendingCommit = s.management.pendingCommit) (hserving : t.serving = s.serving) :
    t.obstacles = s.obstacles := by
  rw [State.obstacles, hkey, hfree, hstream, hcommit, hserving]
  rfl

theorem State.allFree_of_roster (h : t.roster = s.roster) : t.allFree = s.allFree := by
  have hbound : ∀ v : State, v.allFree = allContexts.all fun c => (v.roster.bound c).isNone := fun v => by
    simp [State.allFree, State.roster]
  rw [hbound, hbound, h]

theorem State.serving_of_management (h : t.management = s.management) : t.serving = s.serving := by
  rw [State.serving, h]
  rfl

/-- An operation that leaves the roster, the clock, the streamer and the management unit. -/
theorem State.obstacles_of_roster (h : t.roster = s.roster) (hclock : t.clock = s.clock)
    (hstreamer : t.streamer = s.streamer) (hmanagement : t.management = s.management) : t.obstacles = s.obstacles :=
  State.obstacles_eq (by rw [hclock]) (State.allFree_of_roster h) (by rw [hstreamer]) (by rw [hmanagement])
    (State.serving_of_management hmanagement)

theorem State.YieldOnly.obstacles (h : s.YieldOnly t) : t.obstacles = s.obstacles := by
  obtain ⟨-, -, -, hclock, -, -, -, hmanagement, hstreamer, -⟩ := h.fields
  exact State.obstacles_of_roster h.roster hclock hstreamer hmanagement

theorem State.quiet_iff : s.Quiet ↔ s.obstacles = (.off, true, true, none, false) := by
  simp [State.Quiet, State.obstacles]

theorem State.Quiet.of_obstacles (h : s.Quiet) (hsame : t.obstacles = s.obstacles) : t.Quiet :=
  State.quiet_iff.2 (hsame.trans (State.quiet_iff.1 h))

theorem State.Quiet.context_none (h : s.Quiet) (c : ContextNo) : s.context c = none := by
  obtain ⟨-, hfree, -⟩ := h
  exact State.allFree_iff.1 hfree c

/-! ### A part in order outside SLEEP -/

/-- In RUN some condition of sleep entry is not met; in SAVING all are, and the mark is INVALID (R172, R173). -/
def State.Settled (s : State) : Prop :=
  (s.retention.power = .run ∧ s.readyToSleep = false) ∨
    (s.retention.power = .saving ∧ s.retention.mark = .invalid ∧ s.Quiet)

theorem State.Settled.awake (h : s.Settled) : s.retention.power ≠ .sleep := by
  rcases h with ⟨hpower, -⟩ | ⟨hpower, -⟩ <;> simp [hpower]

/-- What leaves the retention unit and the conditions outside it leaves the part as it was. -/
theorem State.Settled.of_same (h : s.Settled) (hretention : t.retention = s.retention)
    (hsame : t.obstacles = s.obstacles) : t.Settled := by
  refine h.imp (fun ⟨hpower, hbusy⟩ => ?_) fun ⟨hpower, hmark, hquiet⟩ => ?_
  · refine ⟨hretention ▸ hpower, Bool.eq_false_iff.2 fun hready => Bool.eq_false_iff.1 hbusy ?_⟩
    obtain ⟨-, hsleep, hquiet⟩ := State.readyToSleep_iff.1 hready
    exact State.readyToSleep_iff.2 ⟨hpower, hretention ▸ hsleep, hquiet.of_obstacles hsame.symm⟩
  · exact ⟨hretention ▸ hpower, hretention ▸ hmark, hquiet.of_obstacles hsame⟩

/-- The check of R172 settles a part in RUN, whatever conditions are met. -/
theorem checkSleep_settled_of_run (h : s.retention.power = .run) : (checkSleep s).Settled := by
  rcases checkSleep_cases s with ⟨hbusy, hcheck⟩ | ⟨hready, hcheck⟩
  · rw [hcheck]
    exact .inl ⟨h, hbusy⟩
  · obtain ⟨-, -, hquiet⟩ := State.readyToSleep_iff.1 hready
    rw [hcheck]
    exact .inr ⟨rfl, rfl, hquiet⟩

theorem State.Settled.checkSleep (h : s.Settled) : (checkSleep s).Settled := by
  rcases h with ⟨hpower, -⟩ | ⟨hpower, hmark, hquiet⟩
  · exact checkSleep_settled_of_run hpower
  · have hbusy : s.readyToSleep = false := Bool.eq_false_iff.2 fun hready =>
      absurd (State.readyToSleep_iff.1 hready).1 (by simp [hpower])
    exact (checkSleep_of_busy hbusy).symm ▸ .inr ⟨hpower, hmark, hquiet⟩

/-- An operation before the check need only leave a part in RUN there, and a part in SAVING in order. -/
theorem State.Settled.checked (h : s.Settled) (hrun : s.retention.power = .run → t.retention.power = .run)
    (hsaving : s.retention.power = .saving → s.Quiet → t.Settled) : (Machine.checkSleep t).Settled := by
  rcases h with ⟨hpower, -⟩ | ⟨hpower, -, hquiet⟩
  · exact checkSleep_settled_of_run (hrun hpower)
  · exact (hsaving hpower hquiet).checkSleep

/-! ### A part in RUN whose sleep delay holds the save back -/

/-- In RUN, with the key ON or the sleep delay not expired. -/
def State.Alert (s : State) : Prop :=
  s.retention.power = .run ∧ (s.clock.key = .off → s.retention.sleepTimer ≠ .expired)

theorem State.Alert.settled (h : s.Alert) : s.Settled := by
  obtain ⟨hpower, hdelay⟩ := h
  refine .inl ⟨hpower, Bool.eq_false_iff.2 fun hready => ?_⟩
  obtain ⟨-, hexpired, hkey, -⟩ := State.readyToSleep_iff.1 hready
  exact hdelay hkey hexpired

theorem State.Alert.of_same (h : s.Alert) (hretention : t.retention = s.retention)
    (hkey : t.clock.key = s.clock.key) : t.Alert := by
  rw [State.Alert, hretention, hkey]
  exact h

/-- With the key ON a part in RUN is alert. -/
theorem State.Settled.alert_of_on (h : s.Settled) (hkey : s.clock.key = .on) : s.Alert := by
  rcases h with ⟨hpower, -⟩ | ⟨-, -, hoff, -⟩
  · exact ⟨hpower, fun hoff => absurd (hkey.symm.trans hoff) nofun⟩
  · exact absurd (hkey.symm.trans hoff) nofun

theorem keyOnEvent_retention (s : State) : (keyOnEvent s).retention = { s.retention with sleepTimer := .stopped } := by
  simp [keyOnEvent, stopSleep]

theorem keyOffEvent_sleepTimer (s : State) : ∃ n,
    (keyOffEvent s).retention = { s.retention with sleepTimer := .running n } :=
  ⟨_, by simp [keyOffEvent, restartSleep]; rfl⟩

theorem keyOnEvent_alert (h : s.retention.power = .run) : (keyOnEvent s).Alert := by
  rw [State.Alert, keyOnEvent_retention, keyOnEvent_clock]
  exact ⟨h, nofun⟩

theorem keyOffEvent_alert (h : s.retention.power = .run) : (keyOffEvent s).Alert := by
  obtain ⟨n, hn⟩ := keyOffEvent_sleepTimer s
  rw [State.Alert, hn]
  exact ⟨h, nofun⟩

theorem keyOnAtStart_alert (h : s.Alert) : (keyOnAtStart s).Alert := by
  unfold keyOnAtStart
  split
  · exact keyOnEvent_alert h.1
  · exact h

theorem powerOnBase_alert (s : State) : (powerOnBase s).Alert := ⟨rfl, fun _ => nofun⟩

theorem wakeUp_alert (s : State) : (wakeUp s).Alert := by
  rw [wakeUp_eq]
  exact ⟨rfl, fun _ => nofun⟩

/-! ### Arrivals (R172, R174) -/

/-- An arrival abandons a save, and starts the sleep delay anew while the key is OFF. -/
theorem arrivalSeen_alert (h : s.retention.power ≠ .sleep) : (arrivalSeen s).Alert := by
  rw [State.Alert, arrivalSeen_eq]
  refine ⟨?_, fun hoff => ?_⟩
  · cases hpower : s.retention.power with
    | run | saving => simp
    | sleep => exact absurd hpower h
  · have hruns : s.retention.power = .saving ∨ s.clock.key = .off := .inr hoff
    simp [hruns]

theorem keyValue_alert (h : s.Alert) (raw : Nat) (mask on : BitVec 32) : (keyValue s raw mask on).Alert := by
  have hread : ∀ k, (applyReading s k).Alert := fun k => by
    unfold applyReading
    split
    · exact keyOnEvent_alert h.1
    · exact keyOffEvent_alert h.1
    · exact h
    · exact h
  unfold keyValue
  split
  · exact h
  · exact (hread _).of_same rfl rfl

theorem vehicleTime_key (s : State) (v : Nat) : (vehicleTime s v).clock.key = s.clock.key := by
  unfold vehicleTime
  split
  · rfl
  · simp only [State.modClock_clock, Clock.follow, Clock.setTo, Clock.release, Clock.holdBack]
    (repeat' split) <;> rfl

theorem handOn_alert (h : s.Alert) (p : Port) (f : Frame) (row : IdentRow) : (handOn s p f row).Alert := by
  unfold handOn
  split
  · exact h
  cases row.cls with
  | pass => exact h
  | announce => exact h.of_same (by simp) (by simp)
  | reply => exact h.of_same (by simp) (by simp)
  | key =>
    unfold takeKey
    dsimp only
    split
    · exact keyValue_alert h _ _ _
    · exact h
  | time =>
    unfold takeTime
    dsimp only
    split
    · exact h.of_same (by simp) (vehicleTime_key s _)
    · exact h
  | manage => exact h.of_same (by simp) (by simp)

theorem takeArrival_alert (h : s.retention.power ≠ .sleep) (p : Port) (f : Frame) : (takeArrival s p f).Alert := by
  have hseen : (arrivalLowersRec (arrivalSeen s) p).Alert := (arrivalSeen_alert h).of_same (by simp) (by simp)
  unfold takeArrival
  dsimp only
  set seen := arrivalLowersRec (arrivalSeen s) p
  split
  · exact hseen.of_same (by simp) (by simp)
  next row _ =>
  have hgiven : (handOn (if row.cls = .manage then seen else forwardFrame seen p f row.route) p f row).Alert := by
    refine handOn_alert ?_ p f row
    split
    · exact hseen
    · exact hseen.of_same (by simp) (by simp)
  split
  · exact hgiven.of_same (by simp) (by simp)
  · exact hgiven

/-! ### Ports and transmissions -/

theorem changeErrors_settled (h : s.Settled) (p : Port) (f : PortUnit → PortUnit) : (changeErrors s p f).Settled :=
  h.of_same (by simp) (changeErrors_yieldOnly s p f).obstacles

theorem frameSent_settled (h : s.Settled) (p : Port) : (frameSent s p).Settled := by
  have htold : ∀ {t : State} x, t.Settled → (tellSource t x).Settled := fun {t} x k => by
    cases x with
    | query q => exact k.of_same (by simp [tellSource]) (State.obstacles_of_roster (querySent_roster t q)
        (by simp [tellSource]) (by simp [tellSource]) (by simp [tellSource]))
    | forwarded | management => exact k
  unfold frameSent
  (repeat' split)
  · exact h
  · exact htold _ (changeErrors_settled h p _)
  · exact h

theorem closeDialogue_of_free {c : ContextNo} (h : s.context c = none) (o : Closing) : closeDialogue s c o = s := by
  simp only [closeDialogue, h]

/-- With every context FREE there is nothing to cut (R98, R100). -/
theorem cutAll_of_free (h : ∀ c, s.context c = none) : cutAll s = s :=
  List.foldl_fixed' (fun c => closeDialogue_of_free (h c) .cut) _

theorem losePort_of_free (h : ∀ c, s.context c = none) (p : Port) : losePort s p = s :=
  List.foldl_fixed' (fun c => by rw [closeDialogue_of_free (h c), ite_self]) _

theorem pauseStream_obstacles (s : State) (p : Port) : (pauseStream s p).obstacles = s.obstacles := by
  refine State.obstacles_eq rfl rfl ?_ rfl rfl
  rw [pauseStream_streamer]
  split
  · next h => simp [h.1]
  · rfl

theorem resumeStream_obstacles (s : State) (p : Port) : (resumeStream s p).obstacles = s.obstacles := by
  refine State.obstacles_eq rfl rfl ?_ rfl rfl
  simp only [resumeStream, State.modStreamer_streamer]
  split
  · next h => simp [h.1]
  · rfl

theorem dropWaiting_obstacles (s : State) (p : Port) : (dropWaiting s p).obstacles = s.obstacles := by
  refine State.obstacles_eq (by simp) (State.allFree_of_roster (dropWaiting_roster s p)) (by simp) ?_ ?_
  · rw [dropWaiting_management]
  · rw [State.serving, State.serving, dropWaiting_management]
    cases s.management.slot with
    | waitingOutput q held => by_cases hq : q = p <;> simp [hq]
    | empty | serving => rfl

/-- An entry into BUS_OFF that finds every context FREE ends no dialogue (R99, R122). -/
theorem enterBusOff_obstacles (h : ∀ c, s.context c = none) (p : Port) : (enterBusOff s p).obstacles = s.obstacles := by
  have hfree : ∀ c, (s.silenced p).context c = none := fun c => by
    rw [State.silenced_context]
    exact h c
  rw [(enterBusOff_yieldOnly s p).obstacles, pauseStream_obstacles, losePort_of_free hfree, State.silenced,
    dropWaiting_obstacles]
  rfl

theorem execTransmissionFailed_settled (h : s.Settled) (p : Port) : (checkSleep (frameFailed s p)).Settled := by
  refine h.checked (fun hpower => by simp [hpower]) fun _ hquiet => ?_
  unfold frameFailed
  (repeat' split)
  · exact h
  · have hraised : ∀ c, (s.modPort p fun u => { u with txErrors := u.txErrors + 8 }).context c = none :=
      hquiet.context_none
    exact h.of_same (by simp) (enterBusOff_obstacles hraised p)
  · exact changeErrors_settled h p _
  · exact h

/-! ### The management unit -/

theorem queueHeld_serving (s : State) : (queueHeld s).serving = s.serving := by
  unfold queueHeld
  cases hslot : s.management.slot with
  | waitingOutput p held =>
    cases held with
    | nil => simp [State.serving, hslot]
    | cons b rest =>
      dsimp only
      split
      · by_cases hrest : rest = [] <;> simp [State.serving, hslot, hrest]
      · rfl
  | empty | serving => rfl

theorem queueHeld_obstacles (s : State) : (queueHeld s).obstacles = s.obstacles :=
  State.obstacles_eq (by simp) (State.allFree_of_roster (queueHeld_roster s)) (by simp)
    (congrArg Roster.commit (queueHeld_roster s)) (queueHeld_serving s)

theorem applyGeneral_power (s : State) (row : GeneralRow) :
    (applyGeneral s row).retention.power = s.retention.power := by
  rw [applyGeneral_eq]
  dsimp only
  split
  · rw [keyOnEvent_retention]
  · rfl

theorem commitRow_power (s : State) (table row : Nat) :
    (commitRow s table row).state.retention.power = s.retention.power := by
  have happly : ∀ {α : Type} (x : Option α) (f : α → State), (∀ a, (f a).retention.power = s.retention.power) →
      (applyDecoded s x f).state.retention.power = s.retention.power := by
    intro α x f hf
    cases x with
    | none => rfl
    | some a => exact hf a
  have hdefer : ∀ pc, (applyOrDefer s pc).state.retention.power = s.retention.power := fun pc => by
    unfold applyOrDefer
    (repeat' split) <;> simp [plainAnswer]
  unfold commitRow
  dsimp only
  (repeat' split)
  · exact happly _ _ fun _ => rfl
  · rfl
  · exact hdefer _
  · rfl
  · exact hdefer _
  · rfl
  · exact happly _ _ fun r => by simp
  · rfl
  · exact happly _ _ fun r => applyGeneral_power s r
  · rfl
  · rfl

/-- No request changes the power state (R174). -/
theorem effect_power (k : RequestKind) (s : State) (p : Port) (data : List Byte) :
    (k.effect s p data).state.retention.power = s.retention.power := by
  cases k with
  | commit =>
    simp only [RequestKind.effect, serveCommit, needBytes]
    (repeat' split)
    · rfl
    · rfl
    · exact commitRow_power s _ _
  | unknown | status => rfl
  | portStatus | stationStatus | readRow | stage | softReset | surveyStart | surveyStop | readNow | setClock | recover
  | clear | clearAll | exportStart | exportStop | snapshot | release | notices | readEntry =>
    simp only [RequestKind.effect, servePortStatus, serveStationStatus, serveReadRow, serveStage, serveSoftReset,
      serveSurveyStart, serveSurveyStop, serveReadNow, serveSetClock, serveRecover, serveClear, serveClearAll,
      serveExport, serveExportStop, serveSnapshot, startSnapshot, serveRelease, serveNotices, serveReadEntry, needBytes,
      okAnswer, plainAnswer]
    (repeat' split) <;> simp

/-- A request is served in RUN alone: in SAVING the slot holds none (R155, R172). -/
theorem serve_settled (k : RequestKind) (h : s.Settled) : (checkSleep (serve s k k.effect)).Settled := by
  refine h.checked (fun hpower => ?_) fun _ hquiet => ?_
  · unfold serve
    (repeat' split)
    · simp [effect_power, hpower]
    all_goals exact hpower
  · obtain ⟨-, -, -, -, hserving⟩ := hquiet
    exact (serve_idle hserving).symm ▸ h

/-! ### Every command -/

theorem State.streams_of_idle (h : s.streamer.state = .idle) (k : StreamKind) : s.streams k = false := by
  simp [State.streams, h]

/-- Every command but the end of a save keeps a part outside SLEEP in order (R172 to R174). -/
theorem exec_settled (i : Instr) (hi : i ≠ .saveComplete) (h : s.Settled)
    (hsurvey : s.survey.state = .running → s.clock.key = .on) : Leads (exec i s) State.Settled := by
  have hstay : Leads (.next s) State.Settled := leads_next.2 h
  have hsame : ∀ {t : State}, t.retention = s.retention → t.obstacles = s.obstacles →
      Leads (.next t) State.Settled := fun h1 h2 => leads_next.2 (h.of_same h1 h2)
  have hticking : s.survey.state = .running → ∀ {t : State}, t.retention = s.retention → t.clock = s.clock →
      Leads (.next t) State.Settled := fun hruns {t} h1 h2 =>
    leads_next.2 ((h.alert_of_on (hsurvey hruns)).of_same h1 (congrArg Clock.key h2)).settled
  cases i with
  | saveComplete => exact absurd rfl hi
  | powerOn => exact leads_next.2 (keyOnAtStart_alert (powerOnBase_alert s)).settled
  | arrival p f =>
    simp only [exec, execArrival]
    (repeat' split)
    · exact leads_next.2 (takeArrival_alert h.awake p f).settled
    · exact hstay
    · exact leads_refused
  | receiveError p =>
    simp only [exec, execReceiveError]
    split
    · exact leads_next.2 (changeErrors_settled h p _)
    · exact hstay
  | transmissionSent p => exact leads_next.2 (frameSent_settled h p)
  | transmissionFailed p => exact leads_next.2 (execTransmissionFailed_settled h p)
  | lostArbitration => exact hstay
  | busIdle p =>
    simp only [exec, execBusIdle]
    (repeat' split)
    · exact hsame (by simp) ((lookCheck_yieldOnly _).obstacles.trans (resumeStream_obstacles _ p))
    · exact hsame rfl rfl
    · exact hstay
  | recoveryEvent p =>
    simp only [exec, execRecoveryEvent]
    split
    · exact hsame rfl rfl
    · exact hstay
  | grant =>
    simp only [exec, execGrant]
    split
    · next g _ =>
      refine leads_next.2 (.inl ⟨?_, ?_⟩)
      · have hpower : (lookCheck (bindContext (abandonSave s) g)).retention.power =
            (abandonSave s).retention.power := by simp
        rw [hpower, abandonSave_power]
        cases hs : s.retention.power with
        | run | saving => rfl
        | sleep => exact absurd hs h.awake
      · rw [(lookCheck_yieldOnly _).readyToSleep]
        exact readyToSleep_of_bound ((bindContext_context _ g g.context).trans (if_pos rfl))
    · exact hstay
  | waitTimerExpiry c =>
    simp only [exec, execWaitTimerExpiry]
    (repeat' split)
    · next d hd _ =>
      exact leads_next.2 (h.checked (fun hpower => by simp [hpower]) fun _ hquiet =>
        absurd ((hquiet.context_none c).symm.trans hd) nofun)
    · exact hstay
    · exact hstay
  | holdTimerExpiry =>
    refine hsame rfl (State.obstacles_eq ?_ rfl rfl rfl rfl)
    simp only [State.modClock_clock]
    split <;> rfl
  | keyLossTimerExpiry =>
    simp only [exec, execKeyLossTimerExpiry]
    (repeat' split)
    · exact hstay
    · next hon => exact leads_next.2 (keyOffEvent_alert (s := s.modClock _) (h.alert_of_on hon).1).settled
    · exact hsame rfl rfl
  | roundTick =>
    simp only [exec, execRoundTick]
    split
    · next hruns => (repeat' split) <;> exact hticking hruns (by simp) (by simp)
    · exact hstay
  | roundEnd =>
    simp only [exec, execRoundEnd]
    split
    · next hruns => exact hticking hruns.1 (by simp) (by simp)
    · exact hstay
  | keyOffGraceExpiry =>
    simp only [exec, execKeyOffGraceExpiry]
    split
    · refine leads_next.2 (h.checked (fun hpower => by simp [hpower]) fun _ hquiet => ?_)
      have hfree : ∀ c, (s.modSurvey fun v => { v with grace := none }).context c = none := hquiet.context_none
      exact (cutAll_of_free hfree).symm ▸ h.of_same rfl rfl
    · exact hstay
  | captureTrigger k =>
    simp only [exec, execCaptureTrigger]
    (repeat' split)
    · exact hstay
    · refine hsame (by simp) (State.obstacles_of_roster (State.roster_eq ?_ ?_ ?_ ?_ ?_ ?_) ?_ ?_ ?_) <;> simp
    · exact hstay
  | sleepDelayExpiry =>
    simp only [exec, execSleepDelayExpiry]
    split
    · exact leads_next.2 (h.checked id fun hpower hquiet => h.elim (fun k => absurd (hpower.symm.trans k.1) nofun)
        fun ⟨_, hmark, _⟩ => .inr ⟨hpower, hmark, hquiet⟩)
    · exact hstay
    · exact hstay
  | wake p => exact (execWake_of_stays (.inl h.awake)).symm ▸ hstay
  | queueHeldResponse => exact hsame (by simp) (queueHeld_obstacles s)
  | exportLook =>
    refine leads_next.2 (h.checked (fun hpower => by simp [hpower]) fun _ ⟨_, _, hidle, _⟩ => ?_)
    exact (lookExport_of_not_streams (State.streams_of_idle hidle _)).symm ▸ h
  | snapshotLook =>
    refine leads_next.2 (h.checked (fun hpower => by simp [hpower]) fun _ ⟨_, _, hidle, _⟩ => ?_)
    exact (lookSnapshot_of_not_streams (State.streams_of_idle hidle _)).symm ▸ h
  | queueNotice =>
    exact hsame (by simp) (State.obstacles_of_roster (queueNotice_roster s) (by simp) (by simp) (by simp))
  | transmitChoice | guardTimerExpiry | internalTick | postWindowExpiry | noticeIntervalExpiry => exact hsame rfl rfl
  | unknownRequest | status | portStatus | stationStatus | readRow | readEntry | stage | commit | softReset
  | surveyStart | surveyStop | readNow | setClock | recover | clear | clearAll | exportStart | exportStop | snapshot
  | release | notices => exact leads_next.2 (serve_settled _ h)

end Sys2Proof.Machine

/-! PROOFS. A part in SLEEP, and that every step keeps the power states in order: O10. -/

namespace Sys2Proof.Machine

variable {s t : State} {p : Port}

/-! ### A part in SLEEP -/

/-- In SLEEP the part is quiet, its request slot and its due queues are empty, every port is DORMANT or OFF by its row,
and no slot is FILLING (R173). -/
structure State.Asleep (s : State) : Prop where
  power : s.retention.power = .sleep
  quiet : s.Quiet
  slot : s.management.slot = .empty
  due : ∀ p, s.due p = DueQueue.empty
  lines : ∀ p, s.lines p = if (s.portRow p).enable then .dormant else .off
  slots : ∀ i, (s.slot i).state ≠ .filling

/-- A part that saves or sleeps as the rules have it, or is awake with something that holds the save back. -/
def State.PowerOk (s : State) : Prop := (s.Settled ∧ s.Roused) ∨ s.Asleep

/-- The three properties of Sys2Proof/Safety.lean, taken together. -/
theorem powerOk_iff : SleepOk s ∧ MarkOk s ∧ AwakeOk s ↔ s.PowerOk := by
  constructor
  · rintro ⟨⟨hsaving, hsleep, hroused⟩, hmark, hbusy⟩
    cases hpower : s.retention.power with
    | run => exact .inl ⟨.inl ⟨hpower, hbusy⟩, hroused (by simp [hpower])⟩
    | saving => exact .inl ⟨.inr ⟨hpower, hmark hpower, hsaving hpower⟩, hroused (by simp [hpower])⟩
    | sleep =>
      obtain ⟨hquiet, hslot, hdue, hlines, hslots⟩ := hsleep hpower
      exact .inr ⟨hpower, hquiet, hslot, hdue, hlines, hslots⟩
  · rintro (⟨h, hroused⟩ | h)
    · have hbusy : s.readyToSleep = false := by
        rcases h with ⟨-, hbusy⟩ | ⟨hpower, -⟩
        · exact hbusy
        · simp [State.readyToSleep, hpower]
      refine ⟨⟨fun hpower => ?_, fun hpower => absurd hpower h.awake, fun _ => hroused⟩, fun hpower => ?_, hbusy⟩
      · exact h.elim (fun k => absurd (hpower.symm.trans k.1) nofun) fun ⟨_, _, hquiet⟩ => hquiet
      · exact h.elim (fun k => absurd (hpower.symm.trans k.1) nofun) fun ⟨_, hmark, _⟩ => hmark
    · refine ⟨⟨fun hpower => ?_, fun _ => ⟨h.quiet, h.slot, h.due, h.lines, h.slots⟩, fun hpower => ?_⟩,
        fun hpower => ?_, ?_⟩
      · exact h.quiet
      · exact absurd h.power hpower
      · exact absurd (hpower.symm.trans h.power) nofun
      · simp [AwakeOk, State.readyToSleep, h.power]

theorem State.Asleep.of_same (h : s.Asleep) (hpower : t.retention.power = s.retention.power)
    (hsame : t.obstacles = s.obstacles) (hslot : t.management.slot = s.management.slot)
    (hdue : t.survey.due = s.survey.due) (hports : t.ports = s.ports) (htables : t.tables = s.tables)
    (hsnapshots : t.snapshots = s.snapshots) : t.Asleep where
  power := hpower.trans h.power
  quiet := h.quiet.of_obstacles hsame
  slot := hslot.trans h.slot
  due p := (congrArg (Vector.get · p) hdue).trans (h.due p)
  lines p := by
    rw [State.lines_of_ports hports, State.portRow_eq htables]
    exact h.lines p
  slots i := State.slot_eq hsnapshots i ▸ h.slots i

theorem State.Asleep.line (h : s.Asleep) (p : Port) : (s.port p).state = .dormant ∨ (s.port p).state = .off := by
  have hline : (s.port p).state = if (s.portRow p).enable then .dormant else .off := h.lines p
  rw [hline]
  split
  · exact .inl rfl
  · exact .inr rfl

theorem State.Asleep.deaf (h : s.Asleep) (p : Port) :
    (s.port p).state.serves = false ∧ (s.port p).state.accepts = false := by
  rcases h.line p with hline | hline <;> rw [hline] <;> exact ⟨rfl, rfl⟩

theorem State.Asleep.busy (h : s.Asleep) : s.readyToSleep = false := by
  simp [State.readyToSleep, h.power]

theorem State.Asleep.nextGrant (h : s.Asleep) : s.nextGrant = none := by
  refine Option.eq_none_iff_forall_ne_some.2 fun g hg => ?_
  obtain ⟨-, heligible, -⟩ := nextGrant_spec hg
  simp [State.eligible, (h.deaf g.port).1] at heligible

/-! ### Every command in SLEEP -/

/-- In SLEEP a command other than POWER_ON and WAKE leaves the part asleep (R173, R175). -/
theorem exec_asleep (i : Instr) (hi : i ≠ .powerOn) (hwake : ∀ p, i ≠ .wake p) (h : s.Asleep)
    (hsurvey : s.survey.state = .running → s.clock.key = .on) : Leads (exec i s) State.Asleep := by
  obtain ⟨hkey, -, hidle, -, hserving⟩ := h.quiet
  have hstay : Leads (.next s) State.Asleep := leads_next.2 h
  have hsame : ∀ {t : State}, t = s → Leads (.next t) State.Asleep := fun k => k ▸ hstay
  have hchecked : ∀ {t : State}, t = s → Leads (.next (checkSleep t)) State.Asleep := fun k =>
    hsame (k.symm ▸ checkSleep_of_busy h.busy)
  have hrests : ¬ s.survey.state = .running := fun hruns => absurd (hkey.symm.trans (hsurvey hruns)) nofun
  cases i with
  | powerOn => exact absurd rfl hi
  | wake p => exact absurd rfl (hwake p)
  | arrival p f =>
    simp only [exec, execArrival, (h.deaf p).2]
    split
    · exact hstay
    · exact leads_refused
  | receiveError p =>
    simp only [exec, execReceiveError, (h.deaf p).1]
    exact hstay
  | transmissionSent p => exact hsame (frameSent_of_idle (.inl (h.deaf p).1))
  | transmissionFailed p => exact hchecked (frameFailed_of_idle (.inl (h.deaf p).1))
  | lostArbitration => exact hstay
  | busIdle p =>
    have hline : (s.port p).state ≠ .joining := by rcases h.line p with hline | hline <;> rw [hline] <;> nofun
    simp only [exec, execBusIdle, if_neg hline]
    exact hstay
  | recoveryEvent p =>
    have hline : (s.port p).state ≠ .busOff := by rcases h.line p with hline | hline <;> rw [hline] <;> nofun
    simp only [exec, execRecoveryEvent, hline, false_and, if_false]
    exact hstay
  | transmitChoice p =>
    refine hsame (modPort_self ?_)
    simp [PortUnit.choose, PortUnit.mayChoose, (h.deaf p).1]
  | guardTimerExpiry p =>
    refine hsame (modPort_self ?_)
    simp [(h.deaf p).1]
  | grant =>
    simp only [exec, execGrant, h.nextGrant]
    exact hstay
  | waitTimerExpiry c =>
    simp only [exec, execWaitTimerExpiry, h.quiet.context_none c]
    exact hstay
  | internalTick => exact leads_next.2 (h.of_same rfl rfl rfl rfl rfl rfl rfl)
  | holdTimerExpiry =>
    refine leads_next.2 (h.of_same rfl (State.obstacles_eq ?_ rfl rfl rfl rfl) rfl rfl rfl rfl rfl)
    simp only [State.modClock_clock]
    split <;> rfl
  | keyLossTimerExpiry =>
    simp only [exec, execKeyLossTimerExpiry, hkey]
    split
    · exact hstay
    · exact leads_next.2 (h.of_same rfl rfl rfl rfl rfl rfl rfl)
  | roundTick =>
    simp only [exec, execRoundTick, if_neg hrests]
    exact hstay
  | roundEnd =>
    simp only [exec, execRoundEnd, hrests, false_and, if_false]
    exact hstay
  | keyOffGraceExpiry =>
    simp only [exec, execKeyOffGraceExpiry]
    split
    · have hcut : (s.modSurvey fun v => { v with grace := none }).Asleep := h.of_same rfl rfl rfl rfl rfl rfl rfl
      rw [cutAll_of_free hcut.quiet.context_none, checkSleep_of_busy hcut.busy]
      exact leads_next.2 hcut
    · exact hstay
  | captureTrigger k =>
    simp only [exec, execCaptureTrigger, h.power, if_true]
    split <;> exact hstay
  | postWindowExpiry i => exact hsame (modSlot_finish_of_not_filling (h.slots i))
  | queueHeldResponse => exact hsame (queueHeld_of_not_waiting fun p held => by simp [h.slot])
  | exportLook => exact hchecked (lookExport_of_not_streams (State.streams_of_idle hidle _))
  | snapshotLook => exact hchecked (lookSnapshot_of_not_streams (State.streams_of_idle hidle _))
  | queueNotice =>
    refine hsame (if_neg ?_)
    simp [State.noticeDue, h.power]
  | noticeIntervalExpiry => exact leads_next.2 (h.of_same rfl rfl rfl rfl rfl rfl rfl)
  | sleepDelayExpiry =>
    simp only [exec, execSleepDelayExpiry]
    split
    · have hexpired : (s.modRetention fun r => { r with sleepTimer := .expired }).Asleep :=
        h.of_same rfl rfl rfl rfl rfl rfl rfl
      rw [checkSleep_of_busy hexpired.busy]
      exact leads_next.2 hexpired
    · exact hstay
    · exact hstay
  | saveComplete =>
    rw [execSaveComplete_of_not_saving (by simp [h.power])]
    exact hstay
  | unknownRequest | status | portStatus | stationStatus | readRow | readEntry | stage | commit | softReset
  | surveyStart | surveyStop | readNow | setClock | recover | clear | clearAll | exportStart | exportStop | snapshot
  | release | notices => exact hchecked (serve_idle hserving)

/-! ### In and out of SLEEP -/

theorem Slot.finish_ne_filling (x : Slot) : x.finish.state ≠ .filling := by
  unfold Slot.finish
  split
  · nofun
  · assumption

/-- The entry into SLEEP of a quiet part (R173). -/
theorem enterSleep_asleep (h : s.Quiet) (hoff : ∀ p, (s.port p).state = .off ↔ (s.portRow p).enable = false) :
    (enterSleep s).Asleep where
  power := by rw [enterSleep_eq]
  quiet := by
    obtain ⟨hkey, hfree, hidle, hcommit, -⟩ := h
    rw [enterSleep_eq]
    exact ⟨hkey, hfree, hidle, hcommit, rfl⟩
  slot := by rw [enterSleep_eq]
  due := enterSleep_due s
  lines p := by
    have hrow : (enterSleep s).portRow p = s.portRow p := State.portRow_eq (by rw [enterSleep_eq]) p
    rw [State.lines, enterSleep_port, PortUnit.sleep_eq, hrow]
    dsimp only
    split
    · rfl
    · next henable => exact (hoff p).2 (by simpa using henable)
  slots i := by
    rw [enterSleep_slot]
    exact Slot.finish_ne_filling _

/-- Every command keeps the power states in order (R172 to R176). -/
theorem exec_powerOk (i : Instr) (h : s.PowerOk) (hsurvey : s.survey.state = .running → s.clock.key = .on)
    (hoff : ∀ p, (s.port p).state = .off ↔ (s.portRow p).enable = false) : Leads (exec i s) State.PowerOk := by
  intro t ht
  rcases h with ⟨hsettled, hroused⟩ | hasleep
  · by_cases hi : i = .saveComplete
    · subst hi
      rcases hsettled with ⟨hpower, hbusy⟩ | ⟨hpower, -, hquiet⟩
      · rw [execSaveComplete_of_not_saving (by simp [hpower])] at ht
        obtain rfl := Host.Outcome.next.inj ht
        exact .inl ⟨.inl ⟨hpower, hbusy⟩, hroused⟩
      · rw [execSaveComplete_of_saving hpower] at ht
        obtain rfl := Host.Outcome.next.inj ht
        exact .inr (enterSleep_asleep (s := s.saveWritten) hquiet hoff)
    · exact .inl ⟨exec_settled i hi hsettled hsurvey t ht, exec_roused i hi hroused t ht⟩
  · by_cases hi : i = .powerOn
    · subst hi
      obtain rfl := Host.Outcome.next.inj ht
      exact .inl ⟨(keyOnAtStart_alert (powerOnBase_alert s)).settled,
        (powerOnBase_roused s).of_berth (keyOnAtStart_berth _)⟩
    by_cases hwake : ∃ p, i = .wake p
    · obtain ⟨p, rfl⟩ := hwake
      cases henable : (s.portRow p).enable with
      | false =>
        rw [execWake_of_stays (.inr henable)] at ht
        obtain rfl := Host.Outcome.next.inj ht
        exact .inr hasleep
      | true =>
        rw [execWake_of_wakes hasleep.power henable] at ht
        obtain rfl := Host.Outcome.next.inj ht
        exact .inl ⟨(keyOnAtStart_alert (wakeUp_alert s)).settled,
          (wakeUp_roused s).of_berth (keyOnAtStart_berth _)⟩
    · exact .inr (exec_asleep i hi (not_exists.1 hwake) hasleep hsurvey t ht)

/-! ### A millisecond -/

theorem SleepTimer.millisecond_expired {x : SleepTimer} : x.millisecond = .expired ↔ x = .expired := by
  cases x <;> simp [SleepTimer.millisecond]

theorem passMillisecond_obstacles (s : State) : (passMillisecond s).obstacles = s.obstacles := by
  have hkey : (passMillisecond s).clock.key = s.clock.key := by
    obtain ⟨-, -, -, hkey, -⟩ := s.clock.millisecond_frame
    rw [passMillisecond_clock]
    exact hkey
  have hfree : (passMillisecond s).allFree = s.allFree := State.allFree_of_roster (passMillisecond_roster s)
  by_cases hsleep : s.retention.power = .sleep
  · rw [passMillisecond_of_asleep hsleep] at hkey hfree ⊢
    exact State.obstacles_eq hkey hfree rfl rfl rfl
  · rw [passMillisecond_of_awake hsleep] at hkey hfree ⊢
    exact State.obstacles_eq hkey hfree rfl rfl rfl

theorem passMillisecond_settled (h : s.Settled) : (passMillisecond s).Settled := by
  have hretention : (passMillisecond s).retention =
      { s.retention with sleepTimer := s.retention.sleepTimer.millisecond } := by
    rw [passMillisecond_of_awake h.awake]
    rfl
  have hsame := passMillisecond_obstacles s
  refine h.imp (fun ⟨hpower, hbusy⟩ => ?_) fun ⟨hpower, hmark, hquiet⟩ => ?_
  · refine ⟨by rw [hretention]; exact hpower, Bool.eq_false_iff.2 fun hready => Bool.eq_false_iff.1 hbusy ?_⟩
    obtain ⟨-, hexpired, hquiet⟩ := State.readyToSleep_iff.1 hready
    rw [hretention] at hexpired
    exact State.readyToSleep_iff.2
      ⟨hpower, SleepTimer.millisecond_expired.1 hexpired, hquiet.of_obstacles hsame.symm⟩
  · rw [hretention]
    exact ⟨hpower, hmark, hquiet.of_obstacles hsame⟩

theorem passMillisecond_asleep (h : s.Asleep) : (passMillisecond s).Asleep := by
  have hsame := passMillisecond_obstacles s
  rw [passMillisecond_of_asleep h.power] at hsame ⊢
  exact h.of_same rfl hsame rfl rfl rfl rfl rfl

theorem passMillisecond_powerOk (h : s.PowerOk) : (passMillisecond s).PowerOk :=
  h.imp (fun ⟨hsettled, hroused⟩ => ⟨passMillisecond_settled hsettled, hroused.of_lines (passMillisecond_lines s)⟩)
    passMillisecond_asleep

/-- Settles O10: each command and each millisecond keeps a part that is awake settled and without a DORMANT port, or
leaves a sleeping part asleep, and only SAVE_COMPLETE, WAKE and POWER_ON lead from the one to the other. -/
theorem stepKeepsPower : Obligations.StepKeepsPower := by
  intro s t hs ht
  have hpower : s.PowerOk := powerOk_iff.1 ⟨hs.sleep, hs.mark, hs.awake⟩
  obtain ⟨hsurvey, -⟩ := hs.survey
  have hoff := fun p => (hs.ports p).2
  refine powerOk_iff.2 ?_
  rcases step_cases ht with ⟨c, rest, -, hc⟩ | ⟨-, c, u, hu, hc⟩ | ⟨-, -, rfl⟩
  · have hqueued : ({ s with pending := rest } : State).PowerOk := powerOk_iff.1 ⟨hs.sleep, hs.mark, hs.awake⟩
    exact exec_powerOk c hqueued hsurvey hoff t hc
  · rcases (idleChoice_cases hu).2 with rfl | rfl
    · exact exec_powerOk c hpower hsurvey hoff t hc
    · have hchosen : s.choose.PowerOk := powerOk_iff.1 ⟨hs.sleep, hs.mark, hs.awake⟩
      exact exec_powerOk c hchosen hsurvey hoff t hc
  · exact passMillisecond_powerOk hpower

end Sys2Proof.Machine
